-- ==== Sys2Proof/Word.lean ====
section
/-! DEFINITION. The widths of CSB: bytes on the bus and on the command port, 16-bit coefficients and wait counter,
32-bit registers (spec/00_scope.md R6, R7). A 32-bit word is its bits: `toInt` reads it as `s32`, `toNat` as `u32`. -/

namespace Sys2Proof

/-- `u8` (R7): a byte on the bus or a command code. -/
abbrev Byte := BitVec 8

/-- 16 bits (R7): a calibration coefficient (`s16` or `u16` by its index, R11), or the wait counter (R22). -/
abbrev Half := BitVec 16

/-- 32 bits (R7): `s32` read by `toInt`, `u32` read by `toNat`; "the same 32 bits". -/
abbrev Word := BitVec 32

end Sys2Proof
end

