-- ==== Sys2Proof/Config.lean ====
section
/-! DEFINITION. What an implementation of CSB fixes (the OPEN parameters of spec/00_scope.md R6, D15), and the free
values the spec leaves open. The constants of R6 that the source fixes stand where they are used: the request tuples in
Decode.lean. -/

namespace Sys2Proof

/-- The OPEN parameters (R6, D15): `nWait` is N_WAIT, the reload of the wait counter; `tTick` is T_TICK, the least time
between two ticks, and `tConv` is T_CONV, the sensor's conversion time, both in microseconds. No register value depends
on the two times (R74, R136): they enter only `Params.legal`. -/
structure Params where
  nWait : Half
  tTick : Nat
  tConv : Nat
  deriving DecidableEq, Repr

/-- DESIGN CHOICE (log 4): the parameters `State.reset` carries. T_CONV is the spec's nominal 5 ms (R6); N_WAIT and T_TICK
are OPEN there, and 6 is the default of the spec's reference transcription (95_test_vectors.md section 8). -/
def Config.nominalParams : Params := { nWait := 6, tTick := 1000, tConv := 5000 }

/-- FREE VALUE (log 6): coefficient `i` of CAL after a reset step; "unspecified" (R11, R27, R125). `draw` counts draws. -/
opaque Config.unspecifiedCoefficient : (draw i : Nat) → Half

/-- FREE VALUE (log 6): TN (`i = 0`) and PN (`i = 1`) after a reset step; "unspecified" (R16, R27, R125, U11). -/
opaque Config.unspecifiedStaging : (draw i : Nat) → Word

/-- FREE VALUE (log 7): what the host reads in view H5 + `i` while CAL_VALID = 0 (R23, R28, U10: any value). -/
opaque Config.unspecifiedView : (draw i : Nat) → Word

end Sys2Proof
end

