-- ==== Sys2Proof/Syntax.lean ====
section
/-! DEFINITION. The syntax of CSB: one constructor of `Instr` per row of spec/opcode_table.json, the three formats of
encoded words (spec/30_encoding.md R45), and the bus request tuple (R51). -/

namespace Sys2Proof

/-- The 17 rows of spec/opcode_table.json, in its order. None has an operand (R46, R48, R52). -/
inductive Instr where
  | init    -- INIT, format H, R103
  | refresh -- REFRESH, format H, R104
  | idle    -- IDLE, format U, R102
  | calrd   -- CALRD, format U, R60
  | tcmd    -- TCMD, format U, R67
  | twait   -- TWAIT, format U, R68
  | tread   -- TREAD, format U, R69
  | pcmd    -- PCMD, format U, R70
  | pwait   -- PWAIT, format U, R71
  | pread   -- PREAD, format U, R72
  | comp    -- COMP, format U, R79
  | upd     -- UPD, format U, R106
  | rdCal   -- RD.CAL, format B, R52
  | wrTemp  -- WR.TEMP, format B, R52
  | rdT     -- RD.T, format B, R52
  | wrPres  -- WR.PRES, format B, R52
  | rdP     -- RD.P, format B, R52
  deriving DecidableEq, Repr

/-- An encoded word in one of the three formats of R45, each of one fixed length (R56). -/
inductive Code where
  | command (code : Byte)            -- format H, 8 bits, offered by the host
  | phase (code : BitVec 4)          -- format U, 4 bits, the value of SEQ
  | request (descriptor : BitVec 24) -- format B, 24 bits, emitted to the bus capability
  deriving DecidableEq, Repr

/-- The direction of a bus request: bit 23 of its descriptor (R51). -/
inductive Direction where
  | write -- `write-register`, MemWrite (R31)
  | read  -- `read-block`, MemRead (R32)
  deriving DecidableEq, Repr

/-- The bus request tuple (rw, dev, reg, arg) of R51: "the tuple is what matters and what a model should use".
`arg` is the data byte of a write and the byte count of a read. -/
structure BusRequest where
  rw  : Direction
  dev : BitVec 7
  reg : Byte
  arg : Byte
  deriving DecidableEq, Repr

/-- How many bytes the answer to a request carries: the count of a read, none for a write (R31, R32). -/
def BusRequest.answerLength (r : BusRequest) : Nat :=
  match r.rw with
  | .write => 0
  | .read => r.arg.toNat

/-- The bus capability's answer to a request (R31, R32, R33): one failure kind, or the bytes that arrived, in the order
received (none after a write; fewer than asked is a short answer). -/
inductive BusAnswer where
  | fail
  | ok (bytes : List Byte)
  deriving DecidableEq, Repr

end Sys2Proof
end

