-- ==== Sys2Proof/WellFormed.lean ====
section
/-! DEFINITION. Well-formedness of the plain data a run of CSB takes: bus request tuples, answers, parameters. An
instruction has no operand, so its own check is that of the request it stands for. -/

namespace Sys2Proof

/-- R52, R55: CSB's requests go to device 0x77 (R29) and to the three places of R30 only: read 22 bytes at 0xAA, write 0x2E
or 0x34 to 0xF4, read 2 or 3 bytes at 0xF6. -/
def BusRequest.wellFormed (r : BusRequest) : Bool :=
  r.dev == 0x77#7 &&
    match r.rw with
    | .read => (r.reg == 0xAA#8 && r.arg == 22#8) || (r.reg == 0xF6#8 && (r.arg == 2#8 || r.arg == 3#8))
    | .write => r.reg == 0xF4#8 && (r.arg == 0x2E#8 || r.arg == 0x34#8)

/-- R32, D26: an answer never carries more bytes than were asked; fewer is possible (a short answer, which is a failure). -/
def BusAnswer.fits (r : BusRequest) : BusAnswer → Bool
  | .fail => true
  | .ok bytes => bytes.length ≤ r.answerLength

/-- R6, D15: `1 <= N_WAIT <= 2^16 - 1` and `(N_WAIT - 1) * T_TICK >= T_CONV`. -/
def Params.legal (p : Params) : Bool :=
  1 ≤ p.nWait.toNat && p.tConv ≤ (p.nWait.toNat - 1) * p.tTick

/-- R47, R55: the command codes that are not reserved. -/
def commandAssigned (code : Byte) : Bool :=
  code == 0x01#8 || code == 0x02#8

end Sys2Proof
end

