-- ==== Sys2Proof/Decode.lean ====
section
/-! DEFINITION. Decoding the three formats of spec/30_encoding.md R45 and, after it, the encoder. Every code has exactly
one outcome: an instruction, or a rejection by name (R55). -/

namespace Sys2Proof

/-- Why a code is no instruction (R55). -/
inductive Reject where
  | reservedCommand (code : Byte)            -- format H codes 0x00, 0x03 .. 0xFF (R47)
  | unusedPhase (code : BitVec 4)            -- format U codes 10 .. 15, never held (R48)
  | unknownRequest (descriptor : BitVec 24)  -- format B descriptors other than the five of R52
  deriving DecidableEq, Repr

/-- RD.CAL = (1, 0x77, 0xAA, 22): CAL_BASE, CAL_LEN of R6 (R52). -/
def BusRequest.rdCal : BusRequest := { rw := .read, dev := 0x77#7, reg := 0xAA#8, arg := 22#8 }

/-- WR.TEMP = (0, 0x77, 0xF4, 0x2E): CTRL_REG, CMD_TEMP of R6 (R52). -/
def BusRequest.wrTemp : BusRequest := { rw := .write, dev := 0x77#7, reg := 0xF4#8, arg := 0x2E#8 }

/-- RD.T = (1, 0x77, 0xF6, 2): RES_REG of R6 (R52). -/
def BusRequest.rdT : BusRequest := { rw := .read, dev := 0x77#7, reg := 0xF6#8, arg := 2#8 }

/-- WR.PRES = (0, 0x77, 0xF4, 0x34): CTRL_REG, CMD_PRES of R6 (R52). -/
def BusRequest.wrPres : BusRequest := { rw := .write, dev := 0x77#7, reg := 0xF4#8, arg := 0x34#8 }

/-- RD.P = (1, 0x77, 0xF6, 3): RES_REG of R6 (R52). -/
def BusRequest.rdP : BusRequest := { rw := .read, dev := 0x77#7, reg := 0xF6#8, arg := 3#8 }

/-- R51: bit 23 of a descriptor. -/
def Direction.bit : Direction → BitVec 1
  | .write => 0#1
  | .read => 1#1

/-- R51: the direction a descriptor's bit 23 names. -/
def Direction.ofBit (b : BitVec 1) : Direction :=
  if b = 1#1 then .read else .write

/-- R51: `rw` bit 23, `dev` bits 22:16, `reg` bits 15:8, `arg` bits 7:0. -/
def packRequest (r : BusRequest) : BitVec 24 :=
  r.rw.bit ++ r.dev ++ r.reg ++ r.arg

/-- R51, read the other way. -/
def unpackRequest (d : BitVec 24) : BusRequest :=
  { rw := Direction.ofBit (d.extractLsb' 23 1), dev := d.extractLsb' 16 7, reg := d.extractLsb' 8 8,
    arg := d.extractLsb' 0 8 }

/-- Format H (R46, R47): the code is "compared as a whole byte". -/
def decodeCommand (code : Byte) : Except Reject Instr :=
  if code = 0x01#8 then .ok .init
  else if code = 0x02#8 then .ok .refresh
  else .error (.reservedCommand code)

/-- Format U (R48). -/
def decodePhase (code : BitVec 4) : Except Reject Instr :=
  match code.toNat with
  | 0 => .ok .idle
  | 1 => .ok .calrd
  | 2 => .ok .tcmd
  | 3 => .ok .twait
  | 4 => .ok .tread
  | 5 => .ok .pcmd
  | 6 => .ok .pwait
  | 7 => .ok .pread
  | 8 => .ok .comp
  | 9 => .ok .upd
  | _ => .error (.unusedPhase code)

/-- Format B (R51, R52): the tuple is one of the five. -/
def decodeRequest (d : BitVec 24) : Except Reject Instr :=
  let r := unpackRequest d
  if r = .rdCal then .ok .rdCal
  else if r = .wrTemp then .ok .wrTemp
  else if r = .rdT then .ok .rdT
  else if r = .wrPres then .ok .wrPres
  else if r = .rdP then .ok .rdP
  else .error (.unknownRequest d)

/-- The decoder. No state changes how a code is decoded (R56). -/
def decode : Code → Except Reject Instr
  | .command code => decodeCommand code
  | .phase code => decodePhase code
  | .request d => decodeRequest d

/-- The encoder, from the tables of R47, R48 and R52. -/
def encode : Instr → Code
  | .init => .command 0x01#8
  | .refresh => .command 0x02#8
  | .idle => .phase 0#4
  | .calrd => .phase 1#4
  | .tcmd => .phase 2#4
  | .twait => .phase 3#4
  | .tread => .phase 4#4
  | .pcmd => .phase 5#4
  | .pwait => .phase 6#4
  | .pread => .phase 7#4
  | .comp => .phase 8#4
  | .upd => .phase 9#4
  | .rdCal => .request (packRequest .rdCal)
  | .wrTemp => .request (packRequest .wrTemp)
  | .rdT => .request (packRequest .rdT)
  | .wrPres => .request (packRequest .wrPres)
  | .rdP => .request (packRequest .rdP)

/-- The request an instruction emits (R52): its own for a format B row, the micro-operation's for a format U row. -/
def Instr.request? : Instr → Option BusRequest
  | .rdCal | .calrd => some .rdCal
  | .wrTemp | .tcmd => some .wrTemp
  | .rdT | .tread => some .rdT
  | .wrPres | .pcmd => some .wrPres
  | .rdP | .pread => some .rdP
  | .init | .refresh | .idle | .twait | .pwait | .comp | .upd => none

/-- An instruction is well-formed when the request it emits is. -/
def Instr.wellFormed (i : Instr) : Bool :=
  match i.request? with
  | none => true
  | some r => r.wellFormed

/-- The instruction of a decoding, if it is one. -/
def decoded? (c : Code) : Option Instr :=
  match decode c with
  | .ok i => some i
  | .error _ => none

/-- The instruction this decoder reads from `nbits` bits with value `w`, numbered as spec/opcode_table.json numbers them.
The length picks the format (R45, R56): 24 bits are a request descriptor, 8 bits a command, 4 bits a phase code.
DESIGN CHOICE (log 14): a phase code handed over in a whole byte is read as one where that byte is no command; bytes
0x01 and 0x02 are commands. -/
def decodeTableWord (nbits w : Nat) : Option Instr :=
  if nbits = 24 ∧ w < 2 ^ 24 then decoded? (.request (BitVec.ofNat 24 w))
  else if nbits = 8 ∧ w < 2 ^ 8 ∧ commandAssigned (BitVec.ofNat 8 w) then decoded? (.command (BitVec.ofNat 8 w))
  else if (nbits = 8 ∨ nbits = 4) ∧ w < 2 ^ 4 then decoded? (.phase (BitVec.ofNat 4 w))
  else none

end Sys2Proof
end

