-- ==== Sys2Proof/Machine/State.lean ====
section
/-! DEFINITION. The state of CSB as plain data: its registers (spec/10_state.md), its two ports, and the model's own
fields for what the environment will do and what it has seen. -/

namespace Sys2Proof.Machine

/-- The ten values of SEQ (R18, R48); codes 10 .. 15 are never held (R55). -/
inductive Phase where
  | idle | calrd | tcmd | twait | tread | pcmd | pwait | pread | comp | upd
  deriving DecidableEq, Repr

/-- The five values of STATE (R19, R49); codes 5 .. 7 are never held (R55). -/
inductive DevState where
  | uninitialized | calibrationLoaded | measuring | ready | error
  deriving DecidableEq, Repr

/-- The four values of ERR (R21, R50). -/
inductive ErrCode where
  | none | ioError | arithmeticHazard | rejected
  deriving DecidableEq, Repr

/-- The calibration file CAL[0..10] (R11), by the source's names in its order; AC4, AC5, AC6 are `u16`, the others `s16`. -/
@[ext]
structure Calib where
  ac1 : Half
  ac2 : Half
  ac3 : Half
  ac4 : Half
  ac5 : Half
  ac6 : Half
  b1  : Half
  b2  : Half
  mb  : Half
  mc  : Half
  md  : Half
  deriving DecidableEq, Repr

/-- What one host read returns (R23): H0 STATUS, H1 TEMP, H2 PRESS, H3 UT, H4 UP, H5 .. H15 the coefficients. -/
@[ext]
structure HostViews where
  h0  : Word
  h1  : Word
  h2  : Word
  h3  : Word
  h4  : Word
  h5  : Word
  h6  : Word
  h7  : Word
  h8  : Word
  h9  : Word
  h10 : Word
  h11 : Word
  h12 : Word
  h13 : Word
  h14 : Word
  h15 : Word
  deriving DecidableEq, Repr

/-- One move of the environment or of the sequencer: a line of the script notation of R59 (log 1). -/
inductive Event where
  /-- the reset input (R125) -/
  | rst
  /-- one tick of the time base (R73) -/
  | tick
  /-- a host read (R107) -/
  | read
  /-- the host presents a code with `cmd_valid = 1` (R102); an idle CSB accepts it in this step -/
  | offer (code : Byte)
  /-- the host takes a waiting offer off the port (R102: what is accepted is the code on the port at that later step) -/
  | withdraw
  /-- the bus capability answers the transaction of the current phase (R31, R32, R33) -/
  | answer (a : BusAnswer)
  /-- an answer to a transaction that a reset abandoned (R126) -/
  | lateAnswer (a : BusAnswer)
  /-- the sequencer has the step (R10) -/
  | run
  deriving DecidableEq, Repr

/-- The state. The first thirteen fields are CSB's registers, in the order of R27; then the command port's inputs (R102)
and the bus port; then the fields that belong to the model. -/
@[ext]
structure State where
  /-- CAL[0..10] (R11) -/
  cal       : Calib
  /-- CAL_VALID (R12) -/
  calValid  : Bool
  /-- UT (R13) -/
  ut        : Word
  /-- UP (R14) -/
  up        : Word
  /-- TN, the staged temperature (R16) -/
  tn        : Word
  /-- PN, the staged pressure (R16) -/
  pn        : Word
  /-- TEMP (R17) -/
  temp      : Word
  /-- PRESS (R17) -/
  press     : Word
  /-- DATA_VALID (R17) -/
  dataValid : Bool
  /-- SEQ (R18) -/
  seq       : Phase
  /-- STATE (R19) -/
  devState  : DevState
  /-- ERR (R21) -/
  err       : ErrCode
  /-- WAITCNT (R22) -/
  waitcnt   : Half
  /-- command port: `cmd_valid` (R102) -/
  cmdValid  : Bool
  /-- command port: `cmd[7:0]` (R102) -/
  cmd       : Byte
  /-- bus port: the outstanding request; at most one (R38) -/
  busReq    : Option BusRequest
  /-- bus port: the answer standing on the bus, present only inside the step that completes a transaction (log 2) -/
  busAns    : Option BusAnswer
  /-- model: every request emitted so far, newest first (log 13) -/
  requests  : List BusRequest
  /-- model: what the host's last read returned (R107, log 13) -/
  view      : Option HostViews
  /-- model: the environment's moves still to come, the next one first (log 1) -/
  script    : List Event
  /-- model: the OPEN parameters of R6 (log 4) -/
  params    : Params
  /-- model: how many draws of unspecified values have been made (log 6) -/
  draws     : Nat
  deriving DecidableEq, Repr

/-- Why a step stops. No fault is one of CSB's own errors: those are next states (R110, R114). -/
inductive Fault where
  /-- COMP would read CAL while CAL_VALID = 0 (R28: "a model should make a read ... a fault"; U10). Raised by `execComp`.
  Safe; no state with the invariant of Safety.lean raises it. -/
  | calNotLoaded
  /-- A division at arguments where `tdiv` or `udiv` is not defined (R83, U16: fault). Raised by `execComp`. Safe; the
  guards of R97 keep every state from it. -/
  | undefinedDivision
  /-- The bus capability delivered more bytes than asked, which cannot occur (R32, D26). Raised by the five
  micro-operations with a bus transaction. Safe. -/
  | answerTooLong
  deriving DecidableEq, Repr

/-- Why an instruction has no meaning. -/
inductive Refusal where
  /-- The instruction has no meaning in this model yet. Raised by a refused arm of Machine/Dispatch.lean only; none is left.
  Safe. -/
  | notModelled (mnemonic : String)
  deriving DecidableEq, Repr

/-- CSB right after reset (R27, R125). DESIGN CHOICE (log 5, unsafe): CAL, TN and PN, "unspecified" in R27, are zero here.
The ports are idle (log 11) and the model's own fields hold their starting values (log 1, 4, 6, 13). -/
def State.reset : State where
  cal := { ac1 := 0, ac2 := 0, ac3 := 0, ac4 := 0, ac5 := 0, ac6 := 0, b1 := 0, b2 := 0, mb := 0, mc := 0, md := 0 }
  calValid := false
  ut := 0
  up := 0
  tn := 0
  pn := 0
  temp := 0
  press := 0
  dataValid := false
  seq := .idle
  devState := .uninitialized
  err := .none
  waitcnt := 0
  cmdValid := false
  cmd := 0
  busReq := none
  busAns := none
  requests := []
  view := none
  script := []
  params := Config.nominalParams
  draws := 0

end Sys2Proof.Machine
end

