-- ==== Sys2Proof/Machine/Arith.lean ====
section
/-! DEFINITION. The pure functions of spec/00_scope.md R8, as R8 defines them: convert to the mathematical integers, compute
exactly, narrow once. -/

namespace Sys2Proof.Machine

/-- `to_u32(z)` (R8): `z mod 2^32`, read with `toNat`. -/
def toU32 (z : Int) : Word :=
  BitVec.ofInt 32 z

/-- `to_s32(z)` (R8): `z mod 2^32` taken into `-2^31 .. 2^31 - 1`, read with `toInt`; the same bits as `toU32` (R7). -/
def toS32 (z : Int) : Word :=
  BitVec.ofInt 32 z

/-- `add_s` (R8, R81). -/
def addS (a b : Word) : Word :=
  toS32 (a.toInt + b.toInt)

/-- `sub_s` (R8, R81). -/
def subS (a b : Word) : Word :=
  toS32 (a.toInt - b.toInt)

/-- `mul_s` (R8, R81). -/
def mulS (a b : Word) : Word :=
  toS32 (a.toInt * b.toInt)

/-- `asr` (R8, R82): `floor(a / 2^n)` of the signed number; `/` on integers rounds down for a positive divisor. -/
def asr (a : Word) (n : Nat) : Word :=
  toS32 (a.toInt / 2 ^ n)

/-- `shl_s` (R8, R82, D23): `a * 2^n` in 32 bits. -/
def shlS (a : Word) (n : Nat) : Word :=
  toS32 (a.toInt * 2 ^ n)

/-- `tdiv` (R8, R83): the signed quotient truncated toward zero. Not defined at a zero divisor, nor at the overflowing
quotient `-2^31 / -1` (R83, D22, U16). -/
def tdiv (a b : Word) : Option Word :=
  if b.toInt = 0 then none
  else if a.toInt = -2147483648 ∧ b.toInt = -1 then none
  else some (toS32 (a.toInt.tdiv b.toInt))

/-- `add_u` (R8, R84). -/
def addU (a b : Word) : Word :=
  toU32 (a.toNat + b.toNat)

/-- `sub_u` (R8, R84). -/
def subU (a b : Word) : Word :=
  toU32 (a.toNat - b.toNat)

/-- `mul_u` (R8, R84). -/
def mulU (a b : Word) : Word :=
  toU32 (a.toNat * b.toNat)

/-- `lsr` (R8, R82, D12, C2): `floor(a / 2^n)` of the unsigned number. -/
def lsr (a : Word) (n : Nat) : Word :=
  toU32 ((a.toNat : Int) / 2 ^ n)

/-- `udiv` (R8, R83): the unsigned quotient, not defined at a zero divisor (U16). -/
def udiv (a b : Word) : Option Word :=
  if b.toNat = 0 then none else some (toU32 ((a.toNat : Int) / b.toNat))

/-- `as_u32` (R8, R84, D13): the same 32 bits, read unsigned. -/
def asU32 (a : Word) : Word :=
  toU32 a.toInt

/-- `as_s32` (R8, R84, D13): the same 32 bits, read signed. -/
def asS32 (a : Word) : Word :=
  toS32 a.toNat

end Sys2Proof.Machine
end

