-- ==== Sys2Proof/Machine/Operands.lean ====
section
/-! DEFINITION. How operands are assembled from the bytes a read returns (spec/30_encoding.md R54) and how a coefficient
becomes a 32-bit value by its own type (spec/42_compensation.md R80). -/

namespace Sys2Proof.Machine

/-- `be16` (R8, R35): the first byte is the most significant. -/
def be16 (b0 b1 : Byte) : Half :=
  BitVec.ofNat 16 (b0.toNat * 256 + b1.toNat)

/-- `be24` (R8, R35). -/
def be24 (b0 b1 b2 : Byte) : BitVec 24 :=
  BitVec.ofNat 24 (b0.toNat * 65536 + b1.toNat * 256 + b2.toNat)

/-- `sext_32` (R8): `h` if `h < 32768`, else `h - 65536`. -/
def sext32 (h : Half) : Word :=
  toS32 (if h.toNat < 32768 then (h.toNat : Int) else (h.toNat : Int) - 65536)

/-- `zext_32` (R8): the same number. -/
def zext32 (h : Half) : Word :=
  toS32 h.toNat

/-- `bytes[i]` (R54). An answer that reaches an operand has all the bytes asked for (R32), so the default is never taken. -/
def byteAt (bytes : List Byte) (i : Nat) : Byte :=
  bytes.getD i 0

/-- `h_i = be16(bytes[2i], bytes[2i+1])` (R61). -/
def coefficientAt (bytes : List Byte) (i : Nat) : Half :=
  be16 (byteAt bytes (2 * i)) (byteAt bytes (2 * i + 1))

/-- The eleven coefficients of a calibration block, in the order of R61; the stored bits are `h_i`. -/
def calibrationOf (bytes : List Byte) : Calib where
  ac1 := coefficientAt bytes 0
  ac2 := coefficientAt bytes 1
  ac3 := coefficientAt bytes 2
  ac4 := coefficientAt bytes 3
  ac5 := coefficientAt bytes 4
  ac6 := coefficientAt bytes 5
  b1  := coefficientAt bytes 6
  b2  := coefficientAt bytes 7
  mb  := coefficientAt bytes 8
  mc  := coefficientAt bytes 9
  md  := coefficientAt bytes 10

/-- The raw temperature (R54, R69): zero-extended, never sign-extended. -/
def rawTemperature (bytes : List Byte) : Word :=
  zext32 (be16 (byteAt bytes 0) (byteAt bytes 1))

/-- The raw pressure (R54, R72): the 24-bit value shifted right by 8. -/
def rawPressure (bytes : List Byte) : Word :=
  toS32 (((be24 (byteAt bytes 0) (byteAt bytes 1) (byteAt bytes 2)).toNat : Int) / 2 ^ 8)

/-- The ten coefficients COMP reads, widened (R80): MB is not among them (R65). -/
@[ext]
structure Widened where
  ac1 : Word
  ac2 : Word
  ac3 : Word
  ac4 : Word
  ac5 : Word
  ac6 : Word
  b1  : Word
  b2  : Word
  mc  : Word
  md  : Word
  deriving DecidableEq, Repr

/-- R80: AC4, AC5, AC6 are zero-extended, the others sign-extended. -/
def widen (c : Calib) : Widened where
  ac1 := sext32 c.ac1
  ac2 := sext32 c.ac2
  ac3 := sext32 c.ac3
  ac4 := zext32 c.ac4
  ac5 := zext32 c.ac5
  ac6 := zext32 c.ac6
  b1  := sext32 c.b1
  b2  := sext32 c.b2
  mc  := sext32 c.mc
  md  := sext32 c.md

end Sys2Proof.Machine
end

