-- ==== Sys2Proof/Machine/Flags.lean ====
section
/-! DEFINITION. The computed status: BUSY, `cmd_ready`, the codes of SEQ, STATE and ERR, the STATUS word, and the views
H0 .. H15 (spec/10_state.md R20, R23, R24, R28; spec/30_encoding.md R48 to R50). CSB has no arithmetic flags (R79). -/

namespace Sys2Proof.Machine

/-- R48: the code of a phase. -/
def Phase.code : Phase → BitVec 4
  | .idle => 0#4
  | .calrd => 1#4
  | .tcmd => 2#4
  | .twait => 3#4
  | .tread => 4#4
  | .pcmd => 5#4
  | .pwait => 6#4
  | .pread => 7#4
  | .comp => 8#4
  | .upd => 9#4

/-- R49: the code of a device state. -/
def DevState.code : DevState → BitVec 3
  | .uninitialized => 0#3
  | .calibrationLoaded => 1#3
  | .measuring => 2#3
  | .ready => 3#3
  | .error => 4#3

/-- R50: the code of an error. -/
def ErrCode.code : ErrCode → BitVec 2
  | .none => 0#2
  | .ioError => 1#2
  | .arithmeticHazard => 2#2
  | .rejected => 3#2

/-- BUSY (R20): 1 exactly when SEQ is not IDLE. -/
def State.busy (s : State) : Bool :=
  s.seq != .idle

/-- `cmd_ready` (R102): `not BUSY`. -/
def State.cmdReady (s : State) : Bool :=
  !s.busy

/-- STATUS, H0 (R24): 2:0 STATE, 6:3 SEQ, 7 BUSY, 8 CAL_VALID, 9 DATA_VALID, 11:10 ERR, 31:12 read as 0. -/
def State.status (s : State) : Word :=
  0#20 ++ s.err.code ++ BitVec.ofBool s.dataValid ++ BitVec.ofBool s.calValid ++ BitVec.ofBool s.busy ++ s.seq.code ++
    s.devState.code

/-- One of H5 .. H15 (R23): the widened coefficient, or a free value while CAL_VALID = 0 (R28, U10; log 7). -/
def State.calView (s : State) (i : Nat) (value : Word) : Word :=
  if s.calValid then value else Config.unspecifiedView s.draws i

/-- H0 .. H15 as they stand in one state (R23); the coefficients widened by their own types. -/
def State.hostViews (s : State) : HostViews where
  h0  := s.status
  h1  := s.temp
  h2  := s.press
  h3  := s.ut
  h4  := s.up
  h5  := s.calView 0 (sext32 s.cal.ac1)
  h6  := s.calView 1 (sext32 s.cal.ac2)
  h7  := s.calView 2 (sext32 s.cal.ac3)
  h8  := s.calView 3 (zext32 s.cal.ac4)
  h9  := s.calView 4 (zext32 s.cal.ac5)
  h10 := s.calView 5 (zext32 s.cal.ac6)
  h11 := s.calView 6 (sext32 s.cal.b1)
  h12 := s.calView 7 (sext32 s.cal.b2)
  h13 := s.calView 8 (sext32 s.cal.mb)
  h14 := s.calView 9 (sext32 s.cal.mc)
  h15 := s.calView 10 (sext32 s.cal.md)

end Sys2Proof.Machine
end

