-- ==== Sys2Proof/Machine/Ops.lean ====
section
/-! DEFINITION. The operations several meanings share: the abort procedure (CSB's counterpart of taking an exception,
spec/60_exceptions.md R114), accepting and rejecting a command (R102 to R105; the next command is the counterpart of a
return, R117), and a bus transaction (spec/20_memory.md R31 to R33, R38). -/

namespace Sys2Proof.Machine

/-- The abort procedure (R114): `ERR <- E; STATE <- Error; SEQ <- IDLE`, and nothing else (R115). There is no vector, no
saved context and no return operation (R117). -/
def State.abort (e : ErrCode) (s : State) : State :=
  { s with err := e, devState := .error, seq := .idle }

/-- Accepting a command that starts at phase `p` (R103, R104): `ERR <- None; SEQ <- p`. The step consumes the offer (R102). -/
def State.acceptCommand (p : Phase) (s : State) : State :=
  { s with err := .none, seq := p, cmdValid := false }

/-- Rejecting a command (R104, R105, R113): `ERR <- Rejected` and nothing else. The step consumes the offer (R102). -/
def State.rejectCommand (s : State) : State :=
  { s with err := .rejected, cmdValid := false }

/-- Emitting request `r` to the bus capability (R31, R32). At most one transaction is outstanding (R38), so nothing is
emitted while one is. -/
def State.emit (r : BusRequest) (s : State) : State :=
  match s.busReq with
  | some _ => s
  | none => { s with busReq := some r, requests := r :: s.requests }

/-- The bus port after the transaction for `r` was answered: `r` has been emitted, nothing is outstanding. -/
def State.settle (r : BusRequest) (s : State) : State :=
  { s.emit r with busReq := none, busAns := none }

/-- What the bus port says of a transaction. -/
inductive BusResult where
  | waiting                  -- no answer yet (R10, R129)
  | failed                   -- a failure or a short answer (R32)
  | done (bytes : List Byte) -- `ok(bytes)`, exactly as many as asked (R31, R32)
  | tooLong                  -- more bytes than asked, which cannot occur (R32, D26)
  deriving DecidableEq, Repr

/-- The answer to request `r` as `MemRead` and `MemWrite` return it (R31, R32): fewer bytes than asked is a failure. -/
def State.busResult (r : BusRequest) (s : State) : BusResult :=
  match s.busAns with
  | none => .waiting
  | some .fail => .failed
  | some (.ok bytes) =>
    if bytes.length < r.answerLength then .failed
    else if bytes.length = r.answerLength then .done bytes
    else .tooLong

/-- A micro-operation whose body is the bus transaction `r` followed by the writes `onOk` (R10, R60, R67, R69, R70, R72):
while there is no answer the request stands on the bus and no register is written (R10, R129; log 2); a failure raises
IoError (R31, R32, R111). -/
def transact (r : BusRequest) (onOk : List Byte → State → State) (s : State) : Host.Outcome State Fault Refusal :=
  match s.busResult r with
  | .waiting => .next (s.emit r)
  | .failed => .next ((s.settle r).abort .ioError)
  | .done bytes => .next (onOk bytes (s.settle r))
  | .tooLong => .fault .answerTooLong

end Sys2Proof.Machine
end

