-- ==== Sys2Proof/Machine/Bus.lean ====
section
/-! DEFINITION. The five bus requests CSB emits (spec/30_encoding.md R51, R52): the meaning of a format B row is that its
request goes out on the bus and stands there until it is answered (R31, R32, R38; log 2). No register of CSB changes. -/

namespace Sys2Proof.Machine

/-- RD.CAL (R52): read 22 bytes at 0xAA. -/
def execRdCal (s : State) : Host.Outcome State Fault Refusal :=
  .next (s.emit .rdCal)

/-- WR.TEMP (R52): write 0x2E to 0xF4. -/
def execWrTemp (s : State) : Host.Outcome State Fault Refusal :=
  .next (s.emit .wrTemp)

/-- RD.T (R52): read 2 bytes at 0xF6. -/
def execRdT (s : State) : Host.Outcome State Fault Refusal :=
  .next (s.emit .rdT)

/-- WR.PRES (R52): write 0x34 to 0xF4. -/
def execWrPres (s : State) : Host.Outcome State Fault Refusal :=
  .next (s.emit .wrPres)

/-- RD.P (R52): read 3 bytes at 0xF6. -/
def execRdP (s : State) : Host.Outcome State Fault Refusal :=
  .next (s.emit .rdP)

end Sys2Proof.Machine
end

