-- ==== Sys2Proof/Machine/Calibration.lean ====
section
/-! DEFINITION. The calibration load (spec/40_calibration.md). -/

namespace Sys2Proof.Machine

/-- The writes of a successful CALRD (R60, R61, R64): all eleven coefficients, CAL_VALID, STATE and SEQ in one step. Any
block is accepted (R65). -/
def loadCalibration (bytes : List Byte) (s : State) : State :=
  { s with cal := calibrationOf bytes, calValid := true, devState := .calibrationLoaded, seq := .tcmd }

/-- CALRD (R60, R63). -/
def execCalrd (s : State) : Host.Outcome State Fault Refusal :=
  transact .rdCal loadCalibration s

end Sys2Proof.Machine
end

