-- ==== Sys2Proof/Machine/Commands.lean ====
section
/-! DEFINITION. The host commands and the cache update (spec/43_commands.md R102 to R106). -/

namespace Sys2Proof.Machine

/-- INIT (R103): accepted whenever SEQ = IDLE, in any STATE; while BUSY the offer is held (R102). -/
def execInit (s : State) : Host.Outcome State Fault Refusal :=
  .next (if s.busy then s else s.acceptCommand .calrd)

/-- REFRESH (R104): accepted when idle with coefficients, rejected when idle without; while BUSY the offer is held (R102). -/
def execRefresh (s : State) : Host.Outcome State Fault Refusal :=
  .next (if s.busy then s else if s.calValid then s.acceptCommand .tcmd else s.rejectCommand)

/-- A reserved command code (R105): consumed and rejected when idle; while BUSY the offer is held (R102). It is no row of the
opcode table. -/
def execReserved (s : State) : Host.Outcome State Fault Refusal :=
  .next (if s.busy then s else s.rejectCommand)

/-- UPD (R106): the reading is replaced whole, in one step; it cannot fail. -/
def execUpd (s : State) : Host.Outcome State Fault Refusal :=
  .next { s with temp := s.tn, press := s.pn, dataValid := true, devState := .ready, seq := .idle }

end Sys2Proof.Machine
end

