-- ==== Sys2Proof/Machine/Compensation.lean ====
section
/-! DEFINITION. The compensation pipeline (spec/42_compensation.md): the twelve steps, one function each, and COMP. The
pipeline variables are local values (R15, R100). -/

namespace Sys2Proof.Machine

/-- Why the pipeline ends early: a zero divisor (R97), or a division outside its domain, which the guards exclude (U16). -/
inductive CompStop where
  | hazard
  | undefined
  deriving DecidableEq, Repr

/-- A quotient whose divisor has been tested: outside its domain a division is undefined (U16). -/
def definedQuotient : Option Word → Except CompStop Word
  | some q => .ok q
  | none => .error .undefined

/-- Step 1 (R85): X1. -/
def compX1 (w : Widened) (ut : Word) : Word :=
  asr (mulS (subS ut w.ac6) w.ac5) 15

/-- Step 2 (R86): the divisor d. -/
def compDivisor (w : Widened) (x1 : Word) : Word :=
  addS x1 w.md

/-- Step 2 (R86, R97): X2, or ArithmeticHazard when d = 0. -/
def compX2 (w : Widened) (x1 : Word) : Except CompStop Word :=
  if compDivisor w x1 = 0#32 then .error .hazard
  else definedQuotient (tdiv (shlS w.mc 11) (compDivisor w x1))

/-- Step 3 (R87): B5. -/
def compB5 (x1 x2 : Word) : Word :=
  addS x1 x2

/-- Step 3 (R87): T, the temperature. -/
def compT (b5 : Word) : Word :=
  asr (addS b5 8#32) 4

/-- Step 4 (R88): B6. -/
def compB6 (b5 : Word) : Word :=
  subS b5 4000#32

/-- The sub-expression (B6 x B6) >> 12 of steps 5 and 7 (R89, R91). -/
def compSquare (b6 : Word) : Word :=
  asr (mulS b6 b6) 12

/-- Step 5 (R89): X3 = X1 + X2. -/
def compX3Step5 (w : Widened) (b6 : Word) : Word :=
  addS (asr (mulS w.b2 (compSquare b6)) 11) (asr (mulS w.ac2 b6) 11)

/-- Step 6 (R90): B3, by a division that truncates. -/
def compB3 (w : Widened) (x3 : Word) : Except CompStop Word :=
  definedQuotient (tdiv (addS (addS (mulS w.ac1 4#32) x3) 2#32) 4#32)

/-- Step 7 (R91): X3, by a shift that floors. -/
def compX3Step7 (w : Widened) (b6 : Word) : Word :=
  asr (addS (addS (asr (mulS w.ac3 b6) 13) (asr (mulS w.b1 (compSquare b6)) 16)) 2#32) 2

/-- Step 8 (R92): B4, unsigned, by a logical shift. -/
def compB4 (w : Widened) (x3 : Word) : Word :=
  lsr (mulU (asU32 w.ac4) (asU32 (addS x3 32768#32))) 15

/-- Step 9 (R93): B7, unsigned. -/
def compB7 (up b3 : Word) : Word :=
  mulU (subU (asU32 up) (asU32 b3)) 50000#32

/-- Step 10 (R94, R97): p, or ArithmeticHazard when B4 = 0. -/
def compP (b4 b7 : Word) : Except CompStop Word :=
  if b4 = 0#32 then .error .hazard
  else if b7.toNat < 0x80000000 then (definedQuotient (udiv (mulU b7 2#32) b4)).map asS32
  else (definedQuotient (udiv b7 b4)).map fun q => asS32 (mulU q 2#32)

/-- Step 11 (R95): X1, from the square of p >> 8. -/
def compX1Step11 (p : Word) : Word :=
  asr (mulS (mulS (asr p 8) (asr p 8)) 3038#32) 16

/-- Step 11 (R95): X2. -/
def compX2Step11 (p : Word) : Word :=
  asr (mulS (toS32 (-7357)) p) 16

/-- Step 12 (R96): P, the pressure. -/
def compPressure (p : Word) : Word :=
  addS p (asr (addS (addS (compX1Step11 p) (compX2Step11 p)) 3791#32) 4)

/-- Steps 4 to 12 (R88 to R96): the pressure from B5. -/
def pressureOf (w : Widened) (up b5 : Word) : Except CompStop Word := do
  let b6 := compB6 b5
  let b3 ← compB3 w (compX3Step5 w b6)
  let p ← compP (compB4 w (compX3Step7 w b6)) (compB7 up b3)
  pure (compPressure p)

/-- The pipeline (R79): (T, P) from the two samples and the coefficients, "pure and deterministic". Step 2 is tested before
step 10 (R116). -/
def compensate (c : Calib) (ut up : Word) : Except CompStop (Word × Word) := do
  let w := widen c
  let x1 := compX1 w ut
  let x2 ← compX2 w x1
  let b5 := compB5 x1 x2
  let p ← pressureOf w up b5
  pure (compT b5, p)

/-- COMP (R79, R97, R98): the results go to TN and PN; a zero divisor aborts with ArithmeticHazard and writes neither. CAL is
not read while CAL_VALID = 0 (R28, U10; log 8). -/
def execComp (s : State) : Host.Outcome State Fault Refusal :=
  if s.calValid then
    match compensate s.cal s.ut s.up with
    | .ok (t, p) => .next { s with tn := t, pn := p, seq := .upd }
    | .error .hazard => .next (s.abort .arithmeticHazard)
    | .error .undefined => .fault .undefinedDivision
  else .fault .calNotLoaded

end Sys2Proof.Machine
end

