-- ==== Sys2Proof/Machine/Sequencer.lean ====
section
/-! DEFINITION. The measurement sequencer (spec/41_sequencer.md): IDLE and the six micro-operations of an acquisition. -/

namespace Sys2Proof.Machine

/-- IDLE (R18, R48, R102): no micro-operation runs; nothing changes. -/
def execIdle (s : State) : Host.Outcome State Fault Refusal :=
  .next s

/-- The writes of a successful TCMD (R67). `STATE <- Measuring` is seen only after the command write succeeded. -/
def startTemperature (_ : List Byte) (s : State) : State :=
  { s with devState := .measuring, waitcnt := s.params.nWait, seq := .twait }

/-- TCMD (R67). On a failure the abort overwrites STATE with Error. -/
def execTcmd (s : State) : Host.Outcome State Fault Refusal :=
  transact .wrTemp startTemperature s

/-- A conversion wait that ends at phase `p` (R68, R71): enabled only when WAITCNT = 0; until then there is no step, so
nothing changes (log 3). -/
def State.waitThen (p : Phase) (s : State) : State :=
  if s.waitcnt = 0#16 then { s with seq := p } else s

/-- TWAIT (R68). -/
def execTwait (s : State) : Host.Outcome State Fault Refusal :=
  .next (s.waitThen .tread)

/-- The writes of a successful TREAD (R69). -/
def storeTemperature (bytes : List Byte) (s : State) : State :=
  { s with ut := rawTemperature bytes, seq := .pcmd }

/-- TREAD (R69). -/
def execTread (s : State) : Host.Outcome State Fault Refusal :=
  transact .rdT storeTemperature s

/-- The writes of a successful PCMD (R70); STATE is not written. -/
def startPressure (_ : List Byte) (s : State) : State :=
  { s with waitcnt := s.params.nWait, seq := .pwait }

/-- PCMD (R70). -/
def execPcmd (s : State) : Host.Outcome State Fault Refusal :=
  transact .wrPres startPressure s

/-- PWAIT (R71). -/
def execPwait (s : State) : Host.Outcome State Fault Refusal :=
  .next (s.waitThen .pread)

/-- The writes of a successful PREAD (R72). -/
def storePressure (bytes : List Byte) (s : State) : State :=
  { s with up := rawPressure bytes, seq := .comp }

/-- PREAD (R72). -/
def execPread (s : State) : Host.Outcome State Fault Refusal :=
  transact .rdP storePressure s

end Sys2Proof.Machine
end

