-- ==== Sys2Proof/Machine/Dispatch.lean ====
section
/-! DEFINITION. The meaning of every row of spec/opcode_table.json. -/

namespace Sys2Proof.Machine

def exec (i : Instr) (s : State) : Host.Outcome State Fault Refusal :=
  match i with
  | .init => Sys2Proof.Machine.execInit s
  | .refresh => Sys2Proof.Machine.execRefresh s
  | .idle => Sys2Proof.Machine.execIdle s
  | .calrd => Sys2Proof.Machine.execCalrd s
  | .tcmd => Sys2Proof.Machine.execTcmd s
  | .twait => Sys2Proof.Machine.execTwait s
  | .tread => Sys2Proof.Machine.execTread s
  | .pcmd => Sys2Proof.Machine.execPcmd s
  | .pwait => Sys2Proof.Machine.execPwait s
  | .pread => Sys2Proof.Machine.execPread s
  | .comp => Sys2Proof.Machine.execComp s
  | .upd => Sys2Proof.Machine.execUpd s
  | .rdCal => Sys2Proof.Machine.execRdCal s
  | .wrTemp => Sys2Proof.Machine.execWrTemp s
  | .rdT => Sys2Proof.Machine.execRdT s
  | .wrPres => Sys2Proof.Machine.execWrPres s
  | .rdP => Sys2Proof.Machine.execRdP s

end Sys2Proof.Machine
end

