-- ==== Sys2Proof/Machine/Environment.lean ====
section
/-! DEFINITION. What the environment's moves do to CSB: tick (spec/41_sequencer.md R73), host read (spec/43_commands.md
R107), reset (spec/70_reset_and_hazards.md R125, R126), and the command port's inputs (R102). -/

namespace Sys2Proof.Machine

/-- `tick` (R73): WAITCNT goes down by one when it is not zero; nothing else is written. -/
def State.ticked (s : State) : State :=
  if s.waitcnt = 0#16 then s else { s with waitcnt := s.waitcnt - 1#16 }

/-- A host read (R107): all of H0 .. H15 from this one state; no register is written and no request is emitted. -/
def State.hostRead (s : State) : State :=
  { s with view := some s.hostViews, draws := s.draws + 1 }

/-- CAL after a reset step (R125: "unspecified"): free values (log 6). -/
def unspecifiedCalib (draw : Nat) : Calib where
  ac1 := Config.unspecifiedCoefficient draw 0
  ac2 := Config.unspecifiedCoefficient draw 1
  ac3 := Config.unspecifiedCoefficient draw 2
  ac4 := Config.unspecifiedCoefficient draw 3
  ac5 := Config.unspecifiedCoefficient draw 4
  ac6 := Config.unspecifiedCoefficient draw 5
  b1  := Config.unspecifiedCoefficient draw 6
  b2  := Config.unspecifiedCoefficient draw 7
  mb  := Config.unspecifiedCoefficient draw 8
  mc  := Config.unspecifiedCoefficient draw 9
  md  := Config.unspecifiedCoefficient draw 10

/-- A reset step (R125, R126): the registers of R27, from any state; an outstanding transaction is abandoned. The command
port's inputs are the host's and stay (log 11). -/
def State.resetStep (s : State) : State :=
  { s with
    cal := unspecifiedCalib s.draws, calValid := false, ut := 0, up := 0,
    tn := Config.unspecifiedStaging s.draws 0, pn := Config.unspecifiedStaging s.draws 1,
    temp := 0, press := 0, dataValid := false, seq := .idle, devState := .uninitialized, err := .none, waitcnt := 0,
    busReq := none, busAns := none, draws := s.draws + 1 }

/-- The host presents a code with `cmd_valid = 1` (R102); a code already waiting is replaced (log 11). -/
def State.offered (code : Byte) (s : State) : State :=
  { s with cmdValid := true, cmd := code }

/-- The host takes its offer off the port (log 11). -/
def State.withdrawn (s : State) : State :=
  { s with cmdValid := false }

/-- The bus capability's answer stands on the bus (R31, R32). -/
def State.answered (a : BusAnswer) (s : State) : State :=
  { s with busAns := some a }

end Sys2Proof.Machine
end

