-- ==== Sys2Proof/Machine/Fetch.lean ====
section
/-! DEFINITION. What the sequencer runs next. CSB fetches no instructions (spec/20_memory.md R42): the code comes from the
command port when SEQ = IDLE (R102), else from SEQ (R18), and a phase with a bus transaction first puts its request on the
bus (R31, R32, R39). -/

namespace Sys2Proof.Machine

/-- The bus request of a phase (R30, R52): five phases have one. -/
def Phase.request? : Phase → Option BusRequest
  | .calrd => some .rdCal
  | .tcmd => some .wrTemp
  | .tread => some .rdT
  | .pcmd => some .wrPres
  | .pread => some .rdP
  | .idle | .twait | .pwait | .comp | .upd => none

/-- The code the sequencer acts on next: at IDLE an offered command (R102); at a phase whose request is not yet on the bus
and has no answer at hand, the request's descriptor (R51); else the phase code (R48). -/
def State.fetch (s : State) : Code :=
  if s.seq = .idle ∧ s.cmdValid then .command s.cmd
  else
    match s.seq.request?, s.busReq, s.busAns with
    | some r, none, none => .request (packRequest r)
    | _, _, _ => .phase s.seq.code

/-- `s` with nothing on the bus and the event `e` next. -/
def State.primed (e : Event) (s : State) : State :=
  { s with busReq := none, busAns := none, script := e :: s.script }

/-- `s` made ready to run the micro-operation of the bus phase `p` to its end: the phase, coefficients where a cycle needs
them (R28), and an answer of zero bytes of the length asked for (log 15). -/
def State.atBusPhase (p : Phase) (r : BusRequest) (calValid : Bool) (s : State) : State :=
  { s.primed (.answer (.ok (List.replicate r.answerLength 0#8))) with seq := p, calValid := calValid }

/-- `s` made ready to emit the request of the bus phase `p`. -/
def State.atRequest (p : Phase) (calValid : Bool) (s : State) : State :=
  { s.primed .run with seq := p, calValid := calValid }

/-- `s` with all it takes for the next step to run `i` (log 15): the code on the command port for a command, the phase for
the others, with WAITCNT = 0 where a wait needs it (R68, R71) and CAL_VALID = 1 where a cycle needs it (R28). -/
def State.selecting (i : Instr) (s : State) : State :=
  match i with
  | .init => { s.primed .run with seq := .idle, cmdValid := true, cmd := 0x01#8 }
  | .refresh => { s.primed .run with seq := .idle, cmdValid := true, cmd := 0x02#8 }
  | .idle => { s.primed .run with seq := .idle, cmdValid := false }
  | .calrd => s.atBusPhase .calrd .rdCal s.calValid
  | .tcmd => s.atBusPhase .tcmd .wrTemp true
  | .twait => { s.primed .run with seq := .twait, calValid := true, waitcnt := 0 }
  | .tread => s.atBusPhase .tread .rdT true
  | .pcmd => s.atBusPhase .pcmd .wrPres true
  | .pwait => { s.primed .run with seq := .pwait, calValid := true, waitcnt := 0 }
  | .pread => s.atBusPhase .pread .rdP true
  | .comp => { s.primed .run with seq := .comp, calValid := true }
  | .upd => { s.primed .run with seq := .upd, calValid := true }
  | .rdCal => s.atRequest .calrd s.calValid
  | .wrTemp => s.atRequest .tcmd true
  | .rdT => s.atRequest .tread true
  | .wrPres => s.atRequest .pcmd true
  | .rdP => s.atRequest .pread true

/-- `s` with the command code `code` offered to an idle CSB (R102). -/
def State.selectingCommand (code : Byte) (s : State) : State :=
  { s.primed .run with seq := .idle, cmdValid := true, cmd := code }

end Sys2Proof.Machine
end

