-- ==== Sys2Proof/Machine/Turn.lean ====
section
/-! DEFINITION. One step of the sequencer, and one move of the environment (spec/00_scope.md R10; the script notation of
spec/30_encoding.md R59). -/

namespace Sys2Proof.Machine

/-- The sequencer's step: the fetched code is decoded and run. Only a command can fail to decode, since the other codes come
from SEQ; it is then a reserved one (R55, R105). -/
def turn (s : State) : Host.Outcome State Fault Refusal :=
  match decode s.fetch with
  | .ok i => exec i s
  | .error _ => execReserved s

/-- One event (log 1). An offer to an idle CSB is accepted in the same step, an offer to a busy one waits (R102). An answer
completes the micro-operation of the current phase in the same step (R10); where no transaction can be outstanding, or
where it belongs to an abandoned one, it "is ignored and writes nothing" (R126). -/
def perform (e : Event) (s : State) : Host.Outcome State Fault Refusal :=
  match e with
  | .rst => .next s.resetStep
  | .tick => .next s.ticked
  | .read => .next s.hostRead
  | .offer code => if s.busy then .next (s.offered code) else turn (s.offered code)
  | .withdraw => .next s.withdrawn
  | .answer a => if s.seq.request?.isSome then turn (s.answered a) else .next s
  | .lateAnswer _ => .next s
  | .run => turn s

end Sys2Proof.Machine
end

