-- ==== Sys2Proof/Machine/Step.lean ====
section
/-! DEFINITION. One step of the machine, and how a code is placed where the next step runs it. -/

namespace Sys2Proof.Machine

/-- One step (R10): the script's next event; with no event left, the sequencer's step (log 1). -/
def step (s : State) : Host.Outcome State Fault Refusal :=
  match s.script with
  | [] => turn s
  | e :: rest => perform e { s with script := rest }

/-- `s` with the code `w` of `nbits` bits placed where the next step runs it (log 15). A byte that is neither a command nor
a phase code is offered on the command port, where it is reserved (R105); other undecodable words have no place in CSB (R55). -/
def State.withFetchWord (s : State) (nbits w : Nat) : State :=
  match decodeTableWord nbits w with
  | some i => s.selecting i
  | none => if nbits = 8 then s.selectingCommand (BitVec.ofNat 8 w) else s

end Sys2Proof.Machine
end

