-- ==== Sys2Proof/Safety.lean ====
section
/-! DEFINITION. What counts as a safe run, in the terms the statements use: the invariant of CSB's states, the environment
that keeps to the bus capability's contract, and the pipeline written a second time over the mathematical integers
(spec/42_compensation.md R79 to R99), with the predicate that none of its signed operations overflows (R99). -/

namespace Sys2Proof.Machine

/-- STATE agrees with SEQ (R108): at rest and during CALRD it is one of Uninitialized, Ready, Error; at TCMD one of
CalibrationLoaded, Ready, Error; from TWAIT to UPD it is Measuring. -/
def DevState.agrees : DevState → Phase → Bool
  | .uninitialized, p => p == .idle || p == .calrd
  | .calibrationLoaded, p => p == .tcmd
  | .measuring, p => p != .idle && p != .calrd && p != .tcmd
  | .ready, p => p == .idle || p == .calrd || p == .tcmd
  | .error, p => p == .idle || p == .calrd || p == .tcmd

/-- What every state of CSB between two steps satisfies. -/
structure State.Inv (s : State) : Prop where
  /-- R78: WAITCNT = 0 whenever SEQ is neither TWAIT nor PWAIT -/
  wait_zero : s.seq ≠ .twait → s.seq ≠ .pwait → s.waitcnt = 0
  /-- R28: a cycle runs only with coefficients loaded -/
  cal_loaded : s.seq ≠ .idle → s.seq ≠ .calrd → s.calValid = true
  /-- R77 (and R27): `0 <= UT <= 65535` -/
  ut_range : s.ut.toNat ≤ 65535
  /-- R77 (and R27): `0 <= UP <= 65535` -/
  up_range : s.up.toNat ≤ 65535
  /-- R39, R52: what is outstanding on the bus is the request of the current phase -/
  bus_phase : ∀ r, s.busReq = some r → s.seq.request? = some r
  /-- R10: no answer stands on the bus between two steps -/
  no_answer : s.busAns = none
  /-- R106, R129: ERR is None while a command runs -/
  err_clear : s.seq ≠ .idle → s.err = .none
  /-- R108 -/
  state_agrees : s.devState.agrees s.seq = true
  /-- R17, R28: the placeholder reads 0, 0 -/
  store_empty : s.dataValid = false → s.temp = 0 ∧ s.press = 0
  /-- R104, R106: a reading exists only after a calibration load -/
  data_cal : s.dataValid = true → s.calValid = true
  /-- R19, R106: Ready means a reading is held -/
  ready_data : s.devState = .ready → s.dataValid = true
  /-- R12, R104: before the first successful load STATE is Uninitialized or Error -/
  uncalibrated : s.calValid = false → s.devState = .uninitialized ∨ s.devState = .error
  /-- R12, R108: Uninitialized means no successful load yet -/
  unloaded : s.devState = .uninitialized → s.calValid = false

/-- The next event keeps to the bus capability's contract: an answer has no more bytes than the current phase's request asks
for (R32, D26). -/
def State.answerFits (s : State) : Prop :=
  ∀ a rest r, s.script = .answer a :: rest → s.seq.request? = some r → a.fits r = true

/-- The snapshot (R107): the triple (DATA_VALID, TEMP, PRESS). -/
def State.snapshot (s : State) : Bool × Word × Word :=
  (s.dataValid, s.temp, s.press)

/-- `DATA_VALID = 1` and the parameters are legal: the reading has a meaning (R17, R128). -/
def State.readingMeaningful (s : State) : Bool :=
  s.dataValid && s.params.legal

/-- The ticks among the first `n` events of a script. -/
def ticksAmong (n : Nat) (script : List Event) : Nat :=
  (script.take n).count .tick

/-- The record of requests once the transaction for `r` has been answered: `r` is new unless it was already outstanding. -/
def State.requestsWith (s : State) (r : BusRequest) : List BusRequest :=
  if s.busReq = none then r :: s.requests else s.requests

/-- The number a 16-bit signed coefficient has (R8 `sext_32`, R61). -/
def signedHalf (h : Nat) : Int :=
  if h < 32768 then h else (h : Int) - 65536

/-- The number of the byte pair `2i, 2i+1` of an answer, the even byte the most significant (R61). -/
def pairAt (bytes : List Byte) (i : Nat) : Nat :=
  256 * (bytes.getD (2 * i) 0).toNat + (bytes.getD (2 * i + 1) 0).toNat

/-- The order of the phases (R18). -/
def Phase.successor : Phase → Phase
  | .idle => .idle
  | .calrd => .tcmd
  | .tcmd => .twait
  | .twait => .tread
  | .tread => .pcmd
  | .pcmd => .pwait
  | .pwait => .pread
  | .pread => .comp
  | .comp => .upd
  | .upd => .idle

end Sys2Proof.Machine

namespace Sys2Proof.Reference

open Sys2Proof.Machine (Calib)

/-- `to_s32` of R8 as a number: the value congruent to `z` modulo 2^32 in -2^31 .. 2^31 - 1. -/
def wrap (z : Int) : Int :=
  z.bmod (2 ^ 32)

/-- `to_u32` of R8 as a number. -/
def unsigned (z : Int) : Int :=
  z % 2 ^ 32

/-- The pipeline's variables as numbers, one field per assignment of R85 to R96. -/
structure Trace where
  x1Step1  : Int
  d        : Int
  x2Step2  : Int
  b5       : Int
  t        : Int
  b6       : Int
  square   : Int
  x1Step5  : Int
  x2Step5  : Int
  x3Step5  : Int
  b3       : Int
  x1Step7  : Int
  x2Step7  : Int
  x3Step7  : Int
  b4       : Int
  b7       : Int
  q        : Int
  p        : Int
  x1Step11 : Int
  x2Step11 : Int
  pressure : Int
  deriving DecidableEq, Repr

/-- R85 to R96 over the integers, written without the 32-bit functions of the machine: `norm` is applied to the exact result
of every signed operation (`wrap` under the spec's decision D11, the identity when nothing overflows). At a zero divisor the
later fields mean nothing (R97). -/
def trace (norm : Int → Int) (c : Calib) (ut up : Int) : Trace :=
  let x1Step1 := norm (norm (ut - c.ac6.toNat) * c.ac5.toNat) / 32768
  let d := norm (x1Step1 + c.md.toInt)
  let x2Step2 := (norm (c.mc.toInt * 2048)).tdiv d
  let b5 := norm (x1Step1 + x2Step2)
  let b6 := norm (b5 - 4000)
  let square := norm (b6 * b6) / 4096
  let x1Step5 := norm (c.b2.toInt * square) / 2048
  let x2Step5 := norm (c.ac2.toInt * b6) / 2048
  let x3Step5 := norm (x1Step5 + x2Step5)
  let b3 := (norm (norm (norm (c.ac1.toInt * 4) + x3Step5) + 2)).tdiv 4
  let x1Step7 := norm (c.ac3.toInt * b6) / 8192
  let x2Step7 := norm (c.b1.toInt * square) / 65536
  let x3Step7 := norm (norm (x1Step7 + x2Step7) + 2) / 4
  let b4 := unsigned (c.ac4.toNat * unsigned (norm (x3Step7 + 32768))) / 32768
  let b7 := unsigned (unsigned (unsigned up - unsigned b3) * 50000)
  let q := if b7 < 2147483648 then unsigned (b7 * 2) / b4 else unsigned (b7 / b4 * 2)
  let p := wrap q
  let x1Step11 := norm (norm (p / 256 * (p / 256)) * 3038) / 65536
  let x2Step11 := norm (-7357 * p) / 65536
  { x1Step1, d, x2Step2, b5, t := norm (b5 + 8) / 16, b6, square, x1Step5, x2Step5, x3Step5, b3, x1Step7, x2Step7, x3Step7,
    b4, b7, q, p, x1Step11, x2Step11, pressure := norm (p + norm (norm (x1Step11 + x2Step11) + 3791) / 16) }

/-- (T, P) as numbers, or none at a zero divisor (R97, R98). -/
def result (norm : Int → Int) (c : Calib) (ut up : Int) : Option (Int × Int) :=
  let r := trace norm c ut up
  if r.d = 0 ∨ r.b4 = 0 then none else some (r.t, r.pressure)

/-- The number is an `s32` (R7). -/
def inS32 (z : Int) : Prop :=
  -2147483648 ≤ z ∧ z < 2147483648

/-- The exact results of the signed operations R99 lists as able to overflow. -/
def overflowing (c : Calib) (ut up : Int) : List Int :=
  let r := trace wrap c ut up
  [ wrap (ut - c.ac6.toNat) * c.ac5.toNat, r.b6 * r.b6, c.b2.toInt * r.square, c.ac2.toInt * r.b6, c.ac3.toInt * r.b6,
    c.b1.toInt * r.square, r.p / 256 * (r.p / 256), wrap (r.p / 256 * (r.p / 256)) * 3038, -7357 * r.p,
    r.p + wrap (wrap (r.x1Step11 + r.x2Step11) + 3791) / 16 ]

/-- The exact results of every other signed operation of the pipeline (R99). -/
def neverOverflowing (c : Calib) (ut up : Int) : List Int :=
  let r := trace wrap c ut up
  [ ut - c.ac6.toNat, r.x1Step1 + c.md.toInt, c.mc.toInt * 2048, r.x1Step1 + r.x2Step2, r.b5 + 8, r.b5 - 4000,
    r.x1Step5 + r.x2Step5, c.ac1.toInt * 4, wrap (c.ac1.toInt * 4) + r.x3Step5,
    wrap (wrap (c.ac1.toInt * 4) + r.x3Step5) + 2, r.x1Step7 + r.x2Step7, wrap (r.x1Step7 + r.x2Step7) + 2,
    r.x3Step7 + 32768, r.x1Step11 + r.x2Step11, wrap (r.x1Step11 + r.x2Step11) + 3791 ]

/-- R99's predicate NoSignedOverflow(UT, UP, CAL): no signed operation of the pipeline leaves the `s32` range. -/
def NoSignedOverflow (c : Calib) (ut up : Int) : Prop :=
  (∀ z ∈ overflowing c ut up, inS32 z) ∧ ∀ z ∈ neverOverflowing c ut up, inS32 z

end Sys2Proof.Reference
end

