-- ==== Sys2Proof/Certificates/Slice0/Obligations.lean ====
section
/-! DEFINITION. The statements about CSB for the provers. Each docstring names the rule of spec/ it formalises. Wherever a
statement speaks of `step` or of a run, the list of the environment's moves (`script`), the answer standing on the bus
(`busAns`), the record of requests and the command port's two fields are the model's way to hold what the spec describes
(log 1, 2, 11, 13). -/

open Sys2Proof Sys2Proof.Machine

/-! Reset and the environment's moves. -/

/-- R27: the registers the spec gives a value after reset have it, and BUSY is 0. CAL, TN, PN are "unspecified" there and no
value of theirs is stated. -/
def Obligations.ResetHoldsSpecifiedValues : Prop :=
  State.reset.calValid = false ∧ State.reset.ut = 0 ∧ State.reset.up = 0 ∧ State.reset.temp = 0 ∧
    State.reset.press = 0 ∧ State.reset.dataValid = false ∧ State.reset.seq = .idle ∧
    State.reset.devState = .uninitialized ∧ State.reset.err = .none ∧ State.reset.waitcnt = 0 ∧
    State.reset.busy = false

/-- R125: a reset step can occur in any state, overrides everything else, writes the registers of R27, leaves CSB idle and
ready for a command, and issues nothing on the bus. -/
def Obligations.ResetStepOverridesEveryState : Prop :=
  ∀ (s : State) (rest : List Event), s.script = .rst :: rest →
    ∃ t, step s = .next t ∧ t.calValid = false ∧ t.ut = 0 ∧ t.up = 0 ∧ t.temp = 0 ∧ t.press = 0 ∧
      t.dataValid = false ∧ t.seq = .idle ∧ t.busy = false ∧ t.cmdReady = true ∧ t.devState = .uninitialized ∧
      t.err = .none ∧ t.waitcnt = 0 ∧ t.busReq = none ∧ t.requests = s.requests

/-- R126, the sentence on an abandoned transaction: "its answer, if one ever comes, is ignored and writes nothing"; so is
an answer while the current phase has no transaction. The event that marks an answer as late is the model's (log 12). -/
def Obligations.AnswersToNoTransactionWriteNothing : Prop :=
  ∀ (s : State) (a : BusAnswer) (rest : List Event),
    (s.script = .lateAnswer a :: rest ∨ (s.script = .answer a :: rest ∧ s.seq.request? = none)) →
      step s = .next { s with script := rest }

/-- R73: in any state a tick takes one off WAITCNT when it is above zero, and writes nothing else. -/
def Obligations.TickCountsDownAndNothingElse : Prop :=
  ∀ (s : State) (rest : List Event), s.script = .tick :: rest →
    ∃ t, step s = .next t ∧ t.waitcnt.toNat = s.waitcnt.toNat - 1 ∧
      t = { s with script := rest, waitcnt := t.waitcnt }

/-- R107, R23: in every state a host read returns H0 .. H15 as they stand in that state, the coefficients widened by their
own types once CAL_VALID = 1, and writes no register and emits no request. The field that keeps what was read and the
counter of draws are the model's (log 6, log 13). -/
def Obligations.HostReadReturnsOneStateUndisturbed : Prop :=
  ∀ (s : State) (rest : List Event), s.script = .read :: rest →
    ∃ v, step s = .next { s with script := rest, view := some v, draws := s.draws + 1 } ∧
      v.h0 = s.status ∧ v.h1 = s.temp ∧ v.h2 = s.press ∧ v.h3 = s.ut ∧ v.h4 = s.up ∧
      (s.calValid = true →
        v.h5.toInt = s.cal.ac1.toInt ∧ v.h6.toInt = s.cal.ac2.toInt ∧ v.h7.toInt = s.cal.ac3.toInt ∧
        v.h8.toInt = s.cal.ac4.toNat ∧ v.h9.toInt = s.cal.ac5.toNat ∧ v.h10.toInt = s.cal.ac6.toNat ∧
        v.h11.toInt = s.cal.b1.toInt ∧ v.h12.toInt = s.cal.b2.toInt ∧ v.h13.toInt = s.cal.mb.toInt ∧
        v.h14.toInt = s.cal.mc.toInt ∧ v.h15.toInt = s.cal.md.toInt)

/-- R24: the bit fields of STATUS, its reserved bits, which read as 0, and its value after reset. -/
def Obligations.StatusWordPacksItsFields : Prop :=
  (∀ s : State,
    s.status.extractLsb' 0 3 = s.devState.code ∧ s.status.extractLsb' 3 4 = s.seq.code ∧
      (s.status.getLsbD 7 = true ↔ s.seq.code ≠ 0#4) ∧ s.status.getLsbD 8 = s.calValid ∧
      s.status.getLsbD 9 = s.dataValid ∧ s.status.extractLsb' 10 2 = s.err.code ∧
      s.status.extractLsb' 12 20 = 0#20) ∧
    State.reset.status = 0#32

/-- R48, R49, R50: the codes of SEQ, STATE and ERR; the codes the rules call never held are no value's. -/
def Obligations.StatusCodesAreTheTabled : Prop :=
  ([Phase.idle, .calrd, .tcmd, .twait, .tread, .pcmd, .pwait, .pread, .comp, .upd].map fun p => p.code.toNat) =
      [0, 1, 2, 3, 4, 5, 6, 7, 8, 9] ∧
    ([DevState.uninitialized, .calibrationLoaded, .measuring, .ready, .error].map fun d => d.code.toNat) =
      [0, 1, 2, 3, 4] ∧
    ([ErrCode.none, .ioError, .arithmeticHazard, .rejected].map fun e => e.code.toNat) = [0, 1, 2, 3] ∧
    (∀ p : Phase, p.code.toNat ≤ 9) ∧ ∀ d : DevState, d.code.toNat ≤ 4

/-! Decoding, and the step that runs what was decoded. -/

/-- R10, R18, R102: when the code the sequencer fetches decodes to an instruction, the sequencer's step (with nothing left in
the script, or its turn in it), the step of a bus answer and the step of an accepted offer are `exec` of it; what stands
around it is the script moved on, the answer on the bus, the offer on the port (log 1). -/
def Obligations.StepRunsTheDecodedInstruction : Prop :=
  (∀ (s : State) (i : Instr), decode s.fetch = .ok i →
    (s.script = [] → step s = exec i s) ∧
      ∀ rest, s.script = .run :: rest → step s = exec i { s with script := rest }) ∧
    (∀ (s : State) (i : Instr) (a : BusAnswer) (rest : List Event), s.script = .answer a :: rest →
      s.seq.request?.isSome = true → decode ((s.answered a).fetch) = .ok i →
        step s = exec i { s with script := rest, busAns := some a }) ∧
    ∀ (s : State) (i : Instr) (code : Byte) (rest : List Event), s.script = .offer code :: rest → s.seq = .idle →
      decode (.command code) = .ok i →
        step s = exec i { s with script := rest, cmdValid := true, cmd := code }

/-- R18, R42, R52, R102: what the sequencer fetches. At IDLE it is the offered command, or IDLE; at a bus phase with nothing
on the bus yet, the request of that phase; with its request or its answer on the bus, and at the other phases, the phase. -/
def Obligations.FetchFollowsThePhase : Prop :=
  ∀ s : State,
    (s.seq = .idle → s.cmdValid = true → s.fetch = .command s.cmd) ∧
    (s.seq = .idle → s.cmdValid = false → s.fetch = .phase 0#4) ∧
    (∀ r, s.seq.request? = some r → s.busReq = none → s.busAns = none → s.fetch = .request (packRequest r)) ∧
    (s.seq ≠ .idle → (s.seq.request? = none ∨ s.busReq ≠ none ∨ s.busAns ≠ none) → s.fetch = .phase s.seq.code)

/-- R55: the one code that reaches the decoder and is no instruction is a reserved command, offered to an idle CSB. -/
def Obligations.OnlyReservedCommandsFailToDecode : Prop :=
  ∀ s : State, (∃ i, decode s.fetch = .ok i) ∨
    (s.seq = .idle ∧ s.cmdValid = true ∧ s.cmd ≠ 0x01#8 ∧ s.cmd ≠ 0x02#8)

/-- R47, R48, R52: the words of the tables, written out as numbers, decode to their instructions; 0x00 and 0x7F are reserved
commands, 10 is a phase code never held, and RD.T's descriptor with another device address is no request. -/
def Obligations.TabledWordsDecode : Prop :=
  decode (.command 0x01#8) = .ok .init ∧ decode (.command 0x02#8) = .ok .refresh ∧
    decode (.phase 0#4) = .ok .idle ∧ decode (.phase 1#4) = .ok .calrd ∧ decode (.phase 2#4) = .ok .tcmd ∧
    decode (.phase 3#4) = .ok .twait ∧ decode (.phase 4#4) = .ok .tread ∧ decode (.phase 5#4) = .ok .pcmd ∧
    decode (.phase 6#4) = .ok .pwait ∧ decode (.phase 7#4) = .ok .pread ∧ decode (.phase 8#4) = .ok .comp ∧
    decode (.phase 9#4) = .ok .upd ∧ decode (.request 0xF7AA16#24) = .ok .rdCal ∧
    decode (.request 0x77F42E#24) = .ok .wrTemp ∧ decode (.request 0xF7F602#24) = .ok .rdT ∧
    decode (.request 0x77F434#24) = .ok .wrPres ∧ decode (.request 0xF7F603#24) = .ok .rdP ∧
    decode (.command 0x00#8) = .error (.reservedCommand 0x00#8) ∧
    decode (.command 0x7F#8) = .error (.reservedCommand 0x7F#8) ∧
    decode (.phase 10#4) = .error (.unusedPhase 10#4) ∧
    decode (.request 0xF6F602#24) = .error (.unknownRequest 0xF6F602#24)

/-- Decode and encode agree both ways, over every code of the three formats: a code decodes to an instruction exactly when it
is that instruction's encoding, so no two codes share a meaning and every other code is rejected (R45, R55, R56). -/
def Obligations.CodeDecodesIffItIsTheEncoding : Prop :=
  ∀ (c : Code) (i : Instr), decode c = .ok i ↔ c = encode i

/-- R51: the places of the four fields of a descriptor; packing and unpacking lose nothing, either way. -/
def Obligations.RequestPackingLosesNothing : Prop :=
  (∀ r : BusRequest, ((packRequest r).getLsbD 23 = true ↔ r.rw = .read) ∧ (packRequest r).extractLsb' 16 7 = r.dev ∧
      (packRequest r).extractLsb' 8 8 = r.reg ∧ (packRequest r).extractLsb' 0 8 = r.arg ∧
      unpackRequest (packRequest r) = r) ∧
    ∀ d : BitVec 24, packRequest (unpackRequest d) = d

/-! The command port. -/

/-- R103, the acceptance step: idle CSB accepts INIT in any STATE, clears ERR, goes to CALRD and consumes the offer; nothing
else changes. -/
def Obligations.InitIsAcceptedWhenIdle : Prop :=
  ∀ s : State, s.seq = .idle →
    exec .init s = .next { s with err := .none, seq := .calrd, cmdValid := false }

/-- R104, the acceptance step: with coefficients a cycle starts at TCMD; without, ERR is Rejected and nothing else changes.
Either way the offer is consumed. -/
def Obligations.RefreshIsAcceptedOnlyWithCoefficients : Prop :=
  ∀ s : State, s.seq = .idle →
    (s.calValid = true → exec .refresh s = .next { s with err := .none, seq := .tcmd, cmdValid := false }) ∧
      (s.calValid = false → exec .refresh s = .next { s with err := .rejected, cmdValid := false })

/-- R105, R102: a code other than 0x01 and 0x02 accepted by an idle CSB writes Rejected to ERR and nothing else, and is
consumed: both a code that is offered in this step and one that was waiting on the port. -/
def Obligations.ReservedCodeIsConsumedAndRejected : Prop :=
  (∀ (s : State) (code : Byte) (rest : List Event), s.seq = .idle → code ≠ 0x01#8 → code ≠ 0x02#8 →
    s.script = .offer code :: rest →
      step s = .next { s with script := rest, err := .rejected, cmdValid := false, cmd := code }) ∧
    ∀ s : State, s.seq = .idle → s.cmdValid = true → s.cmd ≠ 0x01#8 → s.cmd ≠ 0x02#8 →
      (s.script = [] → step s = .next { s with err := .rejected, cmdValid := false }) ∧
        ∀ rest, s.script = .run :: rest →
          step s = .next { s with script := rest, err := .rejected, cmdValid := false }

/-- R102 with BUSY_POLICY = block, the policy the model takes (log 16, D4): while BUSY an offered code only stands on the
port. Neither command's meaning takes it; that such a meaning, run while BUSY, leaves the whole state as it is, is the model's
choice (log 3, log 17). A step that is no offer and no withdrawal leaves the port's inputs as they are; that a reset step
(R125) is among these steps is the model's choice too (log 11). -/
def Obligations.OfferToABusyBlockWaits : Prop :=
  (∀ (s : State) (code : Byte) (rest : List Event), s.seq ≠ .idle → s.script = .offer code :: rest →
      step s = .next { s with script := rest, cmdValid := true, cmd := code }) ∧
    (∀ s : State, s.seq ≠ .idle → exec .init s = .next s ∧ exec .refresh s = .next s) ∧
    ∀ s t : State, s.seq ≠ .idle → (∀ code rest, s.script ≠ .offer code :: rest) →
      (∀ rest, s.script ≠ .withdraw :: rest) → step s = .next t → t.cmdValid = s.cmdValid ∧ t.cmd = s.cmd

/-- R113: ERR becomes Rejected in a step only when an idle CSB takes a REFRESH without coefficients or a reserved code, and
then no other register is written. -/
def Obligations.RejectionHasExactlyTwoCauses : Prop :=
  ∀ s t : State, step s = .next t → t.err = .rejected → s.err ≠ .rejected →
    (∃ code : Byte, (code = 0x02#8 ∧ s.calValid = false ∨ code ≠ 0x01#8 ∧ code ≠ 0x02#8) ∧
        ((∃ rest, s.script = .offer code :: rest) ∨ s.cmdValid = true ∧ s.cmd = code)) ∧
      s.seq = .idle ∧
      t = { s with err := .rejected, cmdValid := false, cmd := t.cmd, script := t.script }

/-! Bus transactions and the calibration load. -/

/-- R61, R62: the coefficients a calibration block stands for: the pair of bytes 2i, 2i+1, the even byte the most
significant, in the order AC1 .. MD; AC4, AC5, AC6 are unsigned numbers, the others signed. -/
def Obligations.CoefficientsDecodeBigEndianByType : Prop :=
  ∀ bytes : List Byte,
    (calibrationOf bytes).ac1.toInt = signedHalf (pairAt bytes 0) ∧
      (calibrationOf bytes).ac2.toInt = signedHalf (pairAt bytes 1) ∧
      (calibrationOf bytes).ac3.toInt = signedHalf (pairAt bytes 2) ∧
      (calibrationOf bytes).ac4.toNat = pairAt bytes 3 ∧ (calibrationOf bytes).ac5.toNat = pairAt bytes 4 ∧
      (calibrationOf bytes).ac6.toNat = pairAt bytes 5 ∧
      (calibrationOf bytes).b1.toInt = signedHalf (pairAt bytes 6) ∧
      (calibrationOf bytes).b2.toInt = signedHalf (pairAt bytes 7) ∧
      (calibrationOf bytes).mb.toInt = signedHalf (pairAt bytes 8) ∧
      (calibrationOf bytes).mc.toInt = signedHalf (pairAt bytes 9) ∧
      (calibrationOf bytes).md.toInt = signedHalf (pairAt bytes 10)

/-- R60, R64: with an answer of 22 bytes, whatever they are (R65), CALRD stores the block's eleven coefficients, sets
CAL_VALID, writes CalibrationLoaded and goes on to TCMD, all in one step; nothing else changes but the bus port. -/
def Obligations.CalrdLoadsTheWholeBlock : Prop :=
  ∀ (s : State) (bytes : List Byte), s.busAns = some (.ok bytes) → bytes.length = 22 →
    exec .calrd s = .next { s with cal := calibrationOf bytes, calValid := true, devState := .calibrationLoaded,
                                   seq := .tcmd, busReq := none, busAns := none, requests := s.requestsWith .rdCal }

/-- R111, R114, R115, R63: a failed transaction, or an answer with fewer bytes than asked, makes each of the five
micro-operations abort with IoError: ERR, STATE and SEQ are written, and no other register. -/
def Obligations.BusFailureAbortsWithIoError : Prop :=
  ∀ (i : Instr) (r : BusRequest) (s : State),
    (i, r) ∈ [(Instr.calrd, BusRequest.rdCal), (.tcmd, .wrTemp), (.tread, .rdT), (.pcmd, .wrPres), (.pread, .rdP)] →
    (s.busAns = some .fail ∨ ∃ bytes, s.busAns = some (.ok bytes) ∧ bytes.length < r.answerLength) →
      exec i s = .next { s with err := .ioError, devState := .error, seq := .idle,
                                busReq := none, busAns := none, requests := s.requestsWith r }

/-- R10, R129: while there is no answer, each of the five micro-operations leaves every register as it is; its request
stands on the bus. How the model holds an outstanding transaction is log 2. -/
def Obligations.UnansweredTransactionWritesNoRegister : Prop :=
  ∀ (i : Instr) (r : BusRequest) (s : State),
    (i, r) ∈ [(Instr.calrd, BusRequest.rdCal), (.tcmd, .wrTemp), (.tread, .rdT), (.pcmd, .wrPres), (.pread, .rdP)] →
    s.busAns = none → (s.busReq = none ∨ s.busReq = some r) →
      exec i s = .next { s with busReq := some r, requests := s.requestsWith r }

/-- R52: each format B row puts its tuple (rw, dev, reg, arg) on a free bus and writes no register; while a transaction is
outstanding it puts nothing there (R38). -/
def Obligations.RequestRowsEmitTheirTuples : Prop :=
  (∀ s : State, s.busReq = none →
    exec .rdCal s = .next { s with busReq := some ⟨.read, 0x77, 0xAA, 22⟩, requests := ⟨.read, 0x77, 0xAA, 22⟩ :: s.requests } ∧
    exec .wrTemp s = .next { s with busReq := some ⟨.write, 0x77, 0xF4, 0x2E⟩, requests := ⟨.write, 0x77, 0xF4, 0x2E⟩ :: s.requests } ∧
    exec .rdT s = .next { s with busReq := some ⟨.read, 0x77, 0xF6, 2⟩, requests := ⟨.read, 0x77, 0xF6, 2⟩ :: s.requests } ∧
    exec .wrPres s = .next { s with busReq := some ⟨.write, 0x77, 0xF4, 0x34⟩, requests := ⟨.write, 0x77, 0xF4, 0x34⟩ :: s.requests } ∧
    exec .rdP s = .next { s with busReq := some ⟨.read, 0x77, 0xF6, 3⟩, requests := ⟨.read, 0x77, 0xF6, 3⟩ :: s.requests }) ∧
  ∀ (s : State) (i : Instr), s.busReq ≠ none → i ∈ [Instr.rdCal, .wrTemp, .rdT, .wrPres, .rdP] → exec i s = .next s

/-! The measurement sequencer. -/

/-- R67 (TCMD) and R70 (PCMD), an answered command write: the wait counter is loaded with N_WAIT and the wait phase is next;
TCMD alone writes Measuring. Nothing else changes but the bus port. -/
def Obligations.CommandWriteStartsTheWait : Prop :=
  ∀ s : State, s.busAns = some (.ok []) →
    exec .tcmd s = .next { s with devState := .measuring, waitcnt := s.params.nWait, seq := .twait,
                                  busReq := none, busAns := none, requests := s.requestsWith .wrTemp } ∧
    exec .pcmd s = .next { s with waitcnt := s.params.nWait, seq := .pwait,
                                  busReq := none, busAns := none, requests := s.requestsWith .wrPres }

/-- R68, R71: TWAIT and PWAIT go on only when WAITCNT = 0, writing SEQ alone; until then nothing changes. -/
def Obligations.WaitsAreGatedByTheCounter : Prop :=
  ∀ s : State,
    (s.waitcnt = 0 → exec .twait s = .next { s with seq := .tread } ∧ exec .pwait s = .next { s with seq := .pread }) ∧
      (s.waitcnt ≠ 0 → exec .twait s = .next s ∧ exec .pwait s = .next s)

/-- R69: TREAD stores `b0 * 256 + b1`, never sign-extended, in UT, and goes on to PCMD; nothing else changes but the bus
port. -/
def Obligations.TreadStoresTheUnsignedSample : Prop :=
  ∀ (s : State) (b0 b1 : Byte), s.busAns = some (.ok [b0, b1]) →
    ∃ t, exec .tread s = .next t ∧ t.ut.toInt = b0.toNat * 256 + b1.toNat ∧
      t = { s with ut := t.ut, seq := .pcmd, busReq := none, busAns := none, requests := s.requestsWith .rdT }

/-- R72: PREAD stores `b0 * 256 + b1` in UP whatever `b2` is, and goes on to COMP; nothing else changes but the bus port. -/
def Obligations.PreadDropsTheThirdByte : Prop :=
  ∀ (s : State) (b0 b1 b2 : Byte), s.busAns = some (.ok [b0, b1, b2]) →
    ∃ t, exec .pread s = .next t ∧ t.up.toInt = b0.toNat * 256 + b1.toNat ∧
      t = { s with up := t.up, seq := .comp, busReq := none, busAns := none, requests := s.requestsWith .rdP }

/-- R18, R102: IDLE changes nothing. -/
def Obligations.IdleChangesNothing : Prop :=
  ∀ s : State, exec .idle s = .next s

/-! The compensation pipeline. -/

/-- R79, R97, R98, R80 to R96: with coefficients loaded COMP completes for every UT, UP and CAL. Its results are the numbers
the pipeline gives over the integers with every signed operation wrapped to 32 bits, written to TN and PN with SEQ = UPD and
nothing else; at a zero divisor it aborts with ArithmeticHazard and writes neither. The wrap and the guard are SIGNED_OVF =
wrap and HAZARD_POLICY = guard, the values the model takes (log 16; D11, D14). -/
def Obligations.CompRefinesTheIntegerPipeline : Prop :=
  ∀ s : State, s.calValid = true →
    (∀ t p, Reference.result Reference.wrap s.cal s.ut.toInt s.up.toInt = some (t, p) →
      ∃ u, exec .comp s = .next u ∧ u.tn.toInt = t ∧ u.pn.toInt = p ∧
        u = { s with tn := u.tn, pn := u.pn, seq := .upd }) ∧
    (Reference.result Reference.wrap s.cal s.ut.toInt s.up.toInt = none →
      exec .comp s = .next { s with err := .arithmeticHazard, devState := .error, seq := .idle })

/-- R28: CAL is not read while CAL_VALID = 0; COMP then faults, as the rule asks of a model. -/
def Obligations.CompFaultsWithoutCoefficients : Prop :=
  ∀ s : State, s.calValid = false → exec .comp s = .fault .calNotLoaded

/-- R65, R79: COMP depends on UT, UP and the ten coefficients other than MB, and on nothing else: two states that agree on
them complete alike, with the same results. -/
def Obligations.CompIgnoresAllButItsOperands : Prop :=
  ∀ (s s' : State) (mb : Half), s.calValid = true → s'.calValid = true → s'.ut = s.ut → s'.up = s.up →
    s'.cal = { s.cal with mb := mb } →
      ∃ t t', exec .comp s = .next t ∧ exec .comp s' = .next t' ∧ t'.seq = t.seq ∧
        (t.seq = .upd → t'.tn = t.tn ∧ t'.pn = t.pn)

/-- R81 and R84: signed and unsigned `+`, `-`, `×` are exact modulo 2^32, so exact where the result fits; the casts keep the
number modulo 2^32. -/
def Obligations.ArithmeticIsExactModuloItsWidth : Prop :=
  ∀ a b : Word,
    (addS a b).toInt = (a.toInt + b.toInt).bmod (2 ^ 32) ∧ (subS a b).toInt = (a.toInt - b.toInt).bmod (2 ^ 32) ∧
    (mulS a b).toInt = (a.toInt * b.toInt).bmod (2 ^ 32) ∧ ((addU a b).toNat : Int) = (a.toNat + b.toNat) % 2 ^ 32 ∧
    ((subU a b).toNat : Int) = ((a.toNat : Int) - b.toNat) % 2 ^ 32 ∧
    ((mulU a b).toNat : Int) = (a.toNat * b.toNat) % 2 ^ 32 ∧ ((asU32 a).toNat : Int) = a.toInt % 2 ^ 32 ∧
    (asS32 a).toInt = (a.toNat : Int).bmod (2 ^ 32) ∧
    (Reference.inS32 (a.toInt + b.toInt) → (addS a b).toInt = a.toInt + b.toInt) ∧
    (Reference.inS32 (a.toInt - b.toInt) → (subS a b).toInt = a.toInt - b.toInt) ∧
    (Reference.inS32 (a.toInt * b.toInt) → (mulS a b).toInt = a.toInt * b.toInt)

/-- R82, R83: a right shift of a signed value is the floor of the quotient, of an unsigned value the natural quotient; the
two divisions truncate toward zero and are defined except at a zero divisor and at `-2^31 / -1`. -/
def Obligations.ShiftsFloorAndDivisionsTruncate : Prop :=
  (∀ (a : Word) (n : Nat), n ≤ 31 →
      (asr a n).toInt = a.toInt / 2 ^ n ∧ (lsr a n).toNat = a.toNat / 2 ^ n) ∧
    (∀ c : Half, (shlS (sext32 c) 11).toInt = c.toInt * 2048) ∧
    ∀ a b : Word,
      (tdiv a b = none ↔ b.toInt = 0 ∨ a.toInt = -2147483648 ∧ b.toInt = -1) ∧
      (∀ q, tdiv a b = some q → q.toInt = a.toInt.tdiv b.toInt) ∧
      (udiv a b = none ↔ b.toNat = 0) ∧ ∀ q, udiv a b = some q → q.toNat = a.toNat / b.toNat

/-- The ranges the spec derives for X1 and d (R85, R86), X2 (R86), X3 of step 7 (R91) and B4 (R92), over all operands. -/
def Obligations.PipelineVariablesStayInRange : Prop :=
  ∀ (c : Calib) (ut b6 x3 : Word),
    (-65536 ≤ (compX1 (widen c) ut).toInt ∧ (compX1 (widen c) ut).toInt ≤ 65535) ∧
    (-98304 ≤ (compDivisor (widen c) (compX1 (widen c) ut)).toInt ∧
      (compDivisor (widen c) (compX1 (widen c) ut)).toInt ≤ 98302) ∧
    (∀ x2, compX2 (widen c) (compX1 (widen c) ut) = .ok x2 → -67108864 ≤ x2.toInt ∧ x2.toInt ≤ 67108864) ∧
    (-73728 ≤ (compX3Step7 (widen c) b6).toInt ∧ (compX3Step7 (widen c) b6).toInt ≤ 73728) ∧
    (compB4 (widen c) x3).toNat ≤ 131071

/-- R94: step 10. The hazard is exactly B4 = 0; below 0x80000000 the doubling cannot wrap and comes first; from there on the
division comes first and the result wraps only for B4 = 1. -/
def Obligations.StepTenDoublesOnTheSafeSide : Prop :=
  ∀ b4 b7 : Word,
    (b4 = 0 → compP b4 b7 = .error .hazard) ∧
    (b4 ≠ 0 → b7.toNat < 0x80000000 → ∃ p, compP b4 b7 = .ok p ∧ p.toNat = 2 * b7.toNat / b4.toNat) ∧
    (b4 ≠ 0 → 0x80000000 ≤ b7.toNat →
      ∃ p, compP b4 b7 = .ok p ∧ p.toNat = (b7.toNat / b4.toNat * 2) % 2 ^ 32 ∧
        (b4 ≠ 1 → p.toNat = b7.toNat / b4.toNat * 2))

/-- R99: for samples in 0 .. 65535 and any coefficients, the signed operations that R99 does not list never leave the `s32`
range. -/
def Obligations.UnlistedOperationsNeverOverflow : Prop :=
  ∀ (c : Calib) (ut up : Int), 0 ≤ ut → ut ≤ 65535 → 0 ≤ up → up ≤ 65535 →
    ∀ z ∈ Reference.neverOverflowing c ut up, Reference.inS32 z

/-- R99, R89, R95: the overflow limits of four products, over all operands: each is exact just below the number the rule gives
and wraps from there on. -/
def Obligations.ProductsOverflowFromTheListedLimits : Prop :=
  ∀ b6 x p : Word,
    ((mulS b6 b6).toInt = b6.toInt * b6.toInt ↔ |b6.toInt| < 46341) ∧
    ((mulS (asr p 8) (asr p 8)).toInt = (asr p 8).toInt * (asr p 8).toInt ↔ |(asr p 8).toInt| < 46341) ∧
    ((mulS x 3038#32).toInt = x.toInt * 3038 ↔ |x.toInt| < 706875) ∧
    ((mulS (toS32 (-7357)) p).toInt = -7357 * p.toInt ↔ |p.toInt| < 291897)

/-- R81, R99: where no signed operation overflows, COMP's results are those of the pipeline with exact signed arithmetic. -/
def Obligations.CompIsExactWithoutOverflow : Prop :=
  ∀ (s : State) (t p : Int), s.calValid = true → Reference.NoSignedOverflow s.cal s.ut.toInt s.up.toInt →
    Reference.result id s.cal s.ut.toInt s.up.toInt = some (t, p) →
      ∃ u, exec .comp s = .next u ∧ u.tn.toInt = t ∧ u.pn.toInt = p

/-! The reading store. -/

/-- R106: UPD copies TN and PN to TEMP and PRESS and writes DATA_VALID, STATE and SEQ, all in one step, and nothing else. -/
def Obligations.UpdReplacesTheReadingWhole : Prop :=
  ∀ s : State, exec .upd s =
    .next { s with temp := s.tn, press := s.pn, dataValid := true, devState := .ready, seq := .idle }

/-! The whole machine. -/

/-- The invariant of Safety.lean holds after reset (R27, R78, R28, R77, R108). -/
def Obligations.InvariantHoldsAtReset : Prop :=
  State.reset.Inv

/-- Every step from a state with the invariant gives a state with it: the wait counter (R78), the loaded calibration (R28), the
sample ranges (R77), the bus port (R39), ERR while busy (R129), STATE against SEQ (R108), the placeholder (R17, R28). -/
def Obligations.InvariantIsKeptByEveryStep : Prop :=
  ∀ s t : State, s.Inv → step s = .next t → t.Inv

/-- From every state with the invariant the machine goes on, whatever the environment does next, as long as an answer has no
more bytes than were asked for (R32, D26): no fault and no refusal. -/
def Obligations.NoStopFromALegalState : Prop :=
  ∀ s : State, s.Inv → s.answerFits → ∃ t, step s = .next t

/-- R115, R106, R107: in every state, a step changes the snapshot (DATA_VALID, TEMP, PRESS) only if it is a reset, or UPD,
which puts the staged pair there whole. -/
def Obligations.SnapshotChangesOnlyByUpdOrReset : Prop :=
  ∀ s t : State, step s = .next t →
    t.snapshot = s.snapshot ∨ (∃ rest, s.script = .rst :: rest) ∨ (s.seq = .upd ∧ t.snapshot = (true, s.tn, s.pn))

/-- R11, R12, R115: in every state, a step changes CAL or CAL_VALID only if it is a reset, or a CALRD that succeeded, which
leaves CAL_VALID = 1. -/
def Obligations.CalibrationChangesOnlyByCalrdOrReset : Prop :=
  ∀ s t : State, step s = .next t →
    (t.cal = s.cal ∧ t.calValid = s.calValid) ∨ (∃ rest, s.script = .rst :: rest) ∨
      (s.seq = .calrd ∧ t.seq = .tcmd ∧ t.calValid = true ∧ t.devState = .calibrationLoaded)

/-- R13, R14, R16: in every state, a step that is no reset changes UT only at TREAD and UP only at PREAD, both only on success,
and TN, PN only at a COMP that goes on to UPD. -/
def Obligations.SamplesAndStagingHaveOneWriterEach : Prop :=
  ∀ s t : State, step s = .next t → (∀ rest, s.script ≠ .rst :: rest) →
    (t.ut ≠ s.ut → s.seq = .tread ∧ t.seq = .pcmd) ∧ (t.up ≠ s.up → s.seq = .pread ∧ t.seq = .comp) ∧
      (t.tn ≠ s.tn ∨ t.pn ≠ s.pn → s.seq = .comp ∧ t.seq = .upd)

/-- R18: in every state, a step leaves SEQ, moves it to its successor, aborts to IDLE with an error of R114, accepts a command at
IDLE (to CALRD, or to TCMD with coefficients), or is a reset. -/
def Obligations.SeqFollowsTheFixedOrder : Prop :=
  ∀ s t : State, step s = .next t →
    t.seq = s.seq ∨ t.seq = s.seq.successor ∨
      (t.seq = .idle ∧ t.devState = .error ∧ (t.err = .ioError ∨ t.err = .arithmeticHazard)) ∨
      (s.seq = .idle ∧ t.err = .none ∧ (t.seq = .calrd ∨ t.seq = .tcmd ∧ s.calValid = true)) ∨
      ∃ rest, s.script = .rst :: rest

/-- R108: the steps that write STATE. From every state with the invariant, a step that changes STATE is a row of the rule's
table. -/
def Obligations.StateTransitionsAreTheTabled : Prop :=
  ∀ s t : State, s.Inv → step s = .next t → t.devState ≠ s.devState →
    ((∃ rest, s.script = .rst :: rest) ∧ t.devState = .uninitialized) ∨
    (s.seq = .calrd ∧ t.seq = .tcmd ∧ t.devState = .calibrationLoaded) ∨
    (s.seq = .tcmd ∧ t.seq = .twait ∧ t.devState = .measuring ∧
      (s.devState = .calibrationLoaded ∨ s.devState = .ready ∨ s.devState = .error)) ∨
    (s.seq = .upd ∧ t.seq = .idle ∧ t.devState = .ready ∧ s.devState = .measuring) ∨
    (s.seq.request?.isSome = true ∧ t.seq = .idle ∧ t.err = .ioError ∧ t.devState = .error) ∨
    (s.seq = .comp ∧ t.seq = .idle ∧ t.err = .arithmeticHazard ∧ t.devState = .error ∧ s.devState = .measuring)

/-- R39, R52, R76: in every state, a step emits no request, or exactly one, that of the current phase, on a free bus. -/
def Obligations.RequestsComeFromTheirPhaseOnly : Prop :=
  ∀ s t : State, step s = .next t →
    t.requests = s.requests ∨
      ∃ r, s.seq.request? = some r ∧ s.busReq = none ∧ t.requests = r :: s.requests

/-- R111: with no answer standing on the bus, ERR becomes IoError in a step only when the current phase's transaction was
answered with a failure or with too few bytes. -/
def Obligations.IoErrorHasABusFailureBehindIt : Prop :=
  ∀ s t : State, s.busAns = none → step s = .next t → t.err = .ioError → s.err ≠ .ioError →
    ∃ (a : BusAnswer) (rest : List Event) (r : BusRequest), s.script = .answer a :: rest ∧ s.seq.request? = some r ∧
      (a = .fail ∨ ∃ bytes, a = .ok bytes ∧ bytes.length < r.answerLength)

/-! Runs, from any state. -/

/-- R68, R71, R73, R74: in TWAIT or PWAIT, as long as no more ticks have come than WAITCNT held and no reset, the phase is left
only after WAITCNT ticks: after fewer, it is the same phase and WAITCNT has lost exactly that many. -/
def Obligations.WaitLastsUntilItsTicksHaveCome : Prop :=
  ∀ (n : Nat) (s : State), (s.seq = .twait ∨ s.seq = .pwait) → (∀ e ∈ s.script.take n, e ≠ .rst) →
    ticksAmong n s.script < s.waitcnt.toNat →
      ∃ t, Sys2Proof.core.run n s = .next t ∧ t.seq = s.seq ∧
        t.waitcnt.toNat + ticksAmong n s.script = s.waitcnt.toNat

/-- R129: while the transaction of a bus phase is not answered and no reset comes, the block stays busy at that phase for any
number of steps: ERR, STATE, the calibration and the snapshot stay, and at most that one request is on the bus. -/
def Obligations.UnansweredTransactionHoldsThePhase : Prop :=
  ∀ (n : Nat) (s : State) (r : BusRequest), s.seq.request? = some r → s.busAns = none →
    (s.busReq = none ∨ s.busReq = some r) → (∀ e ∈ s.script.take n, e ≠ .rst ∧ ∀ a, e ≠ .answer a) →
      ∃ t, Sys2Proof.core.run n s = .next t ∧ t.seq = s.seq ∧ t.err = s.err ∧ t.devState = s.devState ∧
        t.cal = s.cal ∧ t.calValid = s.calValid ∧ t.snapshot = s.snapshot ∧
        (t.requests = s.requests ∨ t.requests = r :: s.requests)

/-- R63 and row 2 of R103's outcomes: an INIT whose block read fails, or brings fewer than 22 bytes, ends the command after
that one request; the calibration, CAL_VALID and the reading are as before, and the block is idle in Error with IoError. -/
def Obligations.FailedLoadKeepsCalibrationAndReading : Prop :=
  ∀ (s : State) (a : BusAnswer) (rest : List Event), s.seq = .idle → s.busReq = none →
    s.script = .offer 0x01#8 :: .answer a :: rest →
    (a = .fail ∨ ∃ bytes, a = .ok bytes ∧ bytes.length < 22) →
      ∃ u, Sys2Proof.core.run 2 s = .next u ∧ u.cal = s.cal ∧ u.calValid = s.calValid ∧ u.snapshot = s.snapshot ∧
        u.devState = .error ∧ u.err = .ioError ∧ u.seq = .idle ∧ u.requests = .rdCal :: s.requests

/-- R104, R58, R66, R39, R106, R97: one whole REFRESH, for any N_WAIT and any samples. From any idle state with coefficients,
with every transaction answered and N_WAIT ticks in each wait, the block ends idle, having emitted exactly WR.TEMP, RD.T,
WR.PRES, RD.P in that order, with the samples in UT and UP and CAL as it was. Where the pipeline has a result it is the
reading, and STATE is Ready; where the samples meet a zero divisor, ERR is ArithmeticHazard, STATE is Error, and the reading
is as before (wrap and guard: log 16). -/
def Obligations.RefreshDeliversTheCompensatedReading : Prop :=
  ∀ (s : State) (a0 a1 b0 b1 b2 : Byte) (rest : List Event),
    s.seq = .idle → s.calValid = true → s.busReq = none → s.busAns = none →
    s.script = [.offer 0x02#8, .answer (.ok [])] ++ List.replicate s.params.nWait.toNat .tick ++
      [.run, .answer (.ok [a0, a1]), .answer (.ok [])] ++ List.replicate s.params.nWait.toNat .tick ++
      [.run, .answer (.ok [b0, b1, b2]), .run, .run] ++ rest →
      ∃ u, Sys2Proof.core.run (9 + 2 * s.params.nWait.toNat) s = .next u ∧ u.seq = .idle ∧ u.cal = s.cal ∧
        u.calValid = true ∧ u.ut.toInt = a0.toNat * 256 + a1.toNat ∧ u.up.toInt = b0.toNat * 256 + b1.toNat ∧
        u.requests = [.rdP, .wrPres, .rdT, .wrTemp] ++ s.requests ∧ u.script = rest ∧
        (∀ t p, Reference.result Reference.wrap s.cal (a0.toNat * 256 + a1.toNat) (b0.toNat * 256 + b1.toNat) =
            some (t, p) →
          u.temp.toInt = t ∧ u.press.toInt = p ∧ u.dataValid = true ∧ u.devState = .ready ∧ u.err = .none) ∧
        (Reference.result Reference.wrap s.cal (a0.toNat * 256 + a1.toNat) (b0.toNat * 256 + b1.toNat) = none →
          u.snapshot = s.snapshot ∧ u.devState = .error ∧ u.err = .arithmeticHazard)

/-- R103 (rows 1 and 4 of its outcomes), R58, R66, R39, R106, R97: one whole INIT, for any N_WAIT, any block and any samples.
From any idle state, with a calibration block of 22 bytes, every transaction answered and N_WAIT ticks in each wait, the
block ends idle with the block's coefficients and CAL_VALID = 1, having emitted exactly the five requests in their order,
with the samples in UT and UP. Where the pipeline has a result under those coefficients it is the reading, and STATE is
Ready; at a zero divisor ERR is ArithmeticHazard, STATE is Error, and the reading is as before (wrap and guard: log 16). -/
def Obligations.InitLoadsThenDeliversTheReading : Prop :=
  ∀ (s : State) (block : List Byte) (a0 a1 b0 b1 b2 : Byte) (rest : List Event),
    s.seq = .idle → s.busReq = none → s.busAns = none → block.length = 22 →
    s.script = [.offer 0x01#8, .answer (.ok block), .answer (.ok [])] ++
      List.replicate s.params.nWait.toNat .tick ++
      [.run, .answer (.ok [a0, a1]), .answer (.ok [])] ++ List.replicate s.params.nWait.toNat .tick ++
      [.run, .answer (.ok [b0, b1, b2]), .run, .run] ++ rest →
      ∃ u, Sys2Proof.core.run (10 + 2 * s.params.nWait.toNat) s = .next u ∧ u.seq = .idle ∧
        u.cal = calibrationOf block ∧ u.calValid = true ∧ u.ut.toInt = a0.toNat * 256 + a1.toNat ∧
        u.up.toInt = b0.toNat * 256 + b1.toNat ∧
        u.requests = [.rdP, .wrPres, .rdT, .wrTemp, .rdCal] ++ s.requests ∧ u.script = rest ∧
        (∀ t p, Reference.result Reference.wrap (calibrationOf block) (a0.toNat * 256 + a1.toNat)
            (b0.toNat * 256 + b1.toNat) = some (t, p) →
          u.temp.toInt = t ∧ u.press.toInt = p ∧ u.dataValid = true ∧ u.devState = .ready ∧ u.err = .none) ∧
        (Reference.result Reference.wrap (calibrationOf block) (a0.toNat * 256 + a1.toNat)
            (b0.toNat * 256 + b1.toNat) = none →
          u.snapshot = s.snapshot ∧ u.devState = .error ∧ u.err = .arithmeticHazard)
end

