-- ==== Sys2Proof/Laws/Arith.lean ====
section
/-! SUPPORT. One specification lemma per pure function of R8 that narrows, and per operand form of R54: what number its result
is. The functions built on them (`addS`, `mulU`, ...) unfold to these in one step. -/

namespace Sys2Proof.Machine

/-- `to_s32` (R8): the number congruent modulo 2^32 in the signed range. -/
theorem toS32_toInt (z : Int) : (toS32 z).toInt = z.bmod (2 ^ 32) := by
  simp [toS32, BitVec.toInt_ofInt]

/-- `to_u32` (R8): the non-negative remainder. -/
theorem toU32_toNat (z : Int) : ((toU32 z).toNat : Int) = z % 2 ^ 32 := by
  have : (0 : Int) ≤ z % 4294967296 := Int.emod_nonneg _ (by norm_num)
  simp [toU32, BitVec.toNat_ofInt, this]

/-- `to_s32` keeps a number that fits (R81). -/
theorem toS32_toInt_of_fits {z : Int} (h : -2147483648 ≤ z ∧ z < 2147483648) : (toS32 z).toInt = z := by
  rw [toS32_toInt, Int.bmod_eq_of_le] <;> omega

/-- A 16-bit pattern read as a signed number (R8 `sext_32`). -/
theorem half_toInt (h : Half) : h.toInt = if h.toNat < 32768 then (h.toNat : Int) else (h.toNat : Int) - 65536 := by
  rw [BitVec.toInt_eq_toNat_cond]; split <;> split <;> omega

/-- `sext_32` (R8, R80) keeps the signed number. -/
theorem sext32_toInt (h : Half) : (sext32 h).toInt = h.toInt := by
  have := h.isLt
  rw [half_toInt, sext32, toS32_toInt_of_fits]
  split <;> omega

/-- `zext_32` (R8, R80) keeps the unsigned number. -/
theorem zext32_toInt (h : Half) : (zext32 h).toInt = h.toNat := by
  have := h.isLt
  rw [zext32, toS32_toInt_of_fits]
  omega

/-- `be16` (R8, R35): the first byte is the most significant. -/
theorem be16_toNat (b0 b1 : Byte) : (be16 b0 b1).toNat = b0.toNat * 256 + b1.toNat := by
  have := b0.isLt; have := b1.isLt
  simp only [be16, BitVec.toNat_ofNat]; omega

/-- `be24` (R8, R35). -/
theorem be24_toNat (b0 b1 b2 : Byte) : (be24 b0 b1 b2).toNat = b0.toNat * 65536 + b1.toNat * 256 + b2.toNat := by
  have := b0.isLt; have := b1.isLt; have := b2.isLt
  simp only [be24, BitVec.toNat_ofNat]; omega

end Sys2Proof.Machine
end

