-- ==== Sys2Proof/Laws/State.lean ====
section
/-! SUPPORT. The small laws of the updates of State: one lemma per field per update, so that no later proof unfolds an update. -/

namespace Sys2Proof.Machine

/-! The abort procedure (R114). -/

@[simp] theorem State.abort_cal (e : ErrCode) (s : State) : (s.abort e).cal = s.cal := rfl
@[simp] theorem State.abort_calValid (e : ErrCode) (s : State) : (s.abort e).calValid = s.calValid := rfl
@[simp] theorem State.abort_ut (e : ErrCode) (s : State) : (s.abort e).ut = s.ut := rfl
@[simp] theorem State.abort_up (e : ErrCode) (s : State) : (s.abort e).up = s.up := rfl
@[simp] theorem State.abort_tn (e : ErrCode) (s : State) : (s.abort e).tn = s.tn := rfl
@[simp] theorem State.abort_pn (e : ErrCode) (s : State) : (s.abort e).pn = s.pn := rfl
@[simp] theorem State.abort_temp (e : ErrCode) (s : State) : (s.abort e).temp = s.temp := rfl
@[simp] theorem State.abort_press (e : ErrCode) (s : State) : (s.abort e).press = s.press := rfl
@[simp] theorem State.abort_dataValid (e : ErrCode) (s : State) : (s.abort e).dataValid = s.dataValid := rfl
@[simp] theorem State.abort_seq (e : ErrCode) (s : State) : (s.abort e).seq = .idle := rfl
@[simp] theorem State.abort_devState (e : ErrCode) (s : State) : (s.abort e).devState = .error := rfl
@[simp] theorem State.abort_err (e : ErrCode) (s : State) : (s.abort e).err = e := rfl
@[simp] theorem State.abort_waitcnt (e : ErrCode) (s : State) : (s.abort e).waitcnt = s.waitcnt := rfl
@[simp] theorem State.abort_cmdValid (e : ErrCode) (s : State) : (s.abort e).cmdValid = s.cmdValid := rfl
@[simp] theorem State.abort_cmd (e : ErrCode) (s : State) : (s.abort e).cmd = s.cmd := rfl
@[simp] theorem State.abort_busReq (e : ErrCode) (s : State) : (s.abort e).busReq = s.busReq := rfl
@[simp] theorem State.abort_busAns (e : ErrCode) (s : State) : (s.abort e).busAns = s.busAns := rfl
@[simp] theorem State.abort_requests (e : ErrCode) (s : State) : (s.abort e).requests = s.requests := rfl
@[simp] theorem State.abort_view (e : ErrCode) (s : State) : (s.abort e).view = s.view := rfl
@[simp] theorem State.abort_script (e : ErrCode) (s : State) : (s.abort e).script = s.script := rfl
@[simp] theorem State.abort_params (e : ErrCode) (s : State) : (s.abort e).params = s.params := rfl
@[simp] theorem State.abort_draws (e : ErrCode) (s : State) : (s.abort e).draws = s.draws := rfl

/-! Accepting a command (R103, R104). -/

@[simp] theorem State.acceptCommand_cal (p : Phase) (s : State) : (s.acceptCommand p).cal = s.cal := rfl
@[simp] theorem State.acceptCommand_calValid (p : Phase) (s : State) : (s.acceptCommand p).calValid = s.calValid := rfl
@[simp] theorem State.acceptCommand_ut (p : Phase) (s : State) : (s.acceptCommand p).ut = s.ut := rfl
@[simp] theorem State.acceptCommand_up (p : Phase) (s : State) : (s.acceptCommand p).up = s.up := rfl
@[simp] theorem State.acceptCommand_tn (p : Phase) (s : State) : (s.acceptCommand p).tn = s.tn := rfl
@[simp] theorem State.acceptCommand_pn (p : Phase) (s : State) : (s.acceptCommand p).pn = s.pn := rfl
@[simp] theorem State.acceptCommand_temp (p : Phase) (s : State) : (s.acceptCommand p).temp = s.temp := rfl
@[simp] theorem State.acceptCommand_press (p : Phase) (s : State) : (s.acceptCommand p).press = s.press := rfl
@[simp] theorem State.acceptCommand_dataValid (p : Phase) (s : State) : (s.acceptCommand p).dataValid = s.dataValid := rfl
@[simp] theorem State.acceptCommand_seq (p : Phase) (s : State) : (s.acceptCommand p).seq = p := rfl
@[simp] theorem State.acceptCommand_devState (p : Phase) (s : State) : (s.acceptCommand p).devState = s.devState := rfl
@[simp] theorem State.acceptCommand_err (p : Phase) (s : State) : (s.acceptCommand p).err = .none := rfl
@[simp] theorem State.acceptCommand_waitcnt (p : Phase) (s : State) : (s.acceptCommand p).waitcnt = s.waitcnt := rfl
@[simp] theorem State.acceptCommand_cmdValid (p : Phase) (s : State) : (s.acceptCommand p).cmdValid = false := rfl
@[simp] theorem State.acceptCommand_cmd (p : Phase) (s : State) : (s.acceptCommand p).cmd = s.cmd := rfl
@[simp] theorem State.acceptCommand_busReq (p : Phase) (s : State) : (s.acceptCommand p).busReq = s.busReq := rfl
@[simp] theorem State.acceptCommand_busAns (p : Phase) (s : State) : (s.acceptCommand p).busAns = s.busAns := rfl
@[simp] theorem State.acceptCommand_requests (p : Phase) (s : State) : (s.acceptCommand p).requests = s.requests := rfl
@[simp] theorem State.acceptCommand_view (p : Phase) (s : State) : (s.acceptCommand p).view = s.view := rfl
@[simp] theorem State.acceptCommand_script (p : Phase) (s : State) : (s.acceptCommand p).script = s.script := rfl
@[simp] theorem State.acceptCommand_params (p : Phase) (s : State) : (s.acceptCommand p).params = s.params := rfl
@[simp] theorem State.acceptCommand_draws (p : Phase) (s : State) : (s.acceptCommand p).draws = s.draws := rfl

/-! Rejecting a command (R105, R113). -/

@[simp] theorem State.rejectCommand_cal (s : State) : s.rejectCommand.cal = s.cal := rfl
@[simp] theorem State.rejectCommand_calValid (s : State) : s.rejectCommand.calValid = s.calValid := rfl
@[simp] theorem State.rejectCommand_ut (s : State) : s.rejectCommand.ut = s.ut := rfl
@[simp] theorem State.rejectCommand_up (s : State) : s.rejectCommand.up = s.up := rfl
@[simp] theorem State.rejectCommand_tn (s : State) : s.rejectCommand.tn = s.tn := rfl
@[simp] theorem State.rejectCommand_pn (s : State) : s.rejectCommand.pn = s.pn := rfl
@[simp] theorem State.rejectCommand_temp (s : State) : s.rejectCommand.temp = s.temp := rfl
@[simp] theorem State.rejectCommand_press (s : State) : s.rejectCommand.press = s.press := rfl
@[simp] theorem State.rejectCommand_dataValid (s : State) : s.rejectCommand.dataValid = s.dataValid := rfl
@[simp] theorem State.rejectCommand_seq (s : State) : s.rejectCommand.seq = s.seq := rfl
@[simp] theorem State.rejectCommand_devState (s : State) : s.rejectCommand.devState = s.devState := rfl
@[simp] theorem State.rejectCommand_err (s : State) : s.rejectCommand.err = .rejected := rfl
@[simp] theorem State.rejectCommand_waitcnt (s : State) : s.rejectCommand.waitcnt = s.waitcnt := rfl
@[simp] theorem State.rejectCommand_cmdValid (s : State) : s.rejectCommand.cmdValid = false := rfl
@[simp] theorem State.rejectCommand_cmd (s : State) : s.rejectCommand.cmd = s.cmd := rfl
@[simp] theorem State.rejectCommand_busReq (s : State) : s.rejectCommand.busReq = s.busReq := rfl
@[simp] theorem State.rejectCommand_busAns (s : State) : s.rejectCommand.busAns = s.busAns := rfl
@[simp] theorem State.rejectCommand_requests (s : State) : s.rejectCommand.requests = s.requests := rfl
@[simp] theorem State.rejectCommand_view (s : State) : s.rejectCommand.view = s.view := rfl
@[simp] theorem State.rejectCommand_script (s : State) : s.rejectCommand.script = s.script := rfl
@[simp] theorem State.rejectCommand_params (s : State) : s.rejectCommand.params = s.params := rfl
@[simp] theorem State.rejectCommand_draws (s : State) : s.rejectCommand.draws = s.draws := rfl

/-! An offer on the command port (R102). -/

@[simp] theorem State.offered_cal (c : Byte) (s : State) : (s.offered c).cal = s.cal := rfl
@[simp] theorem State.offered_calValid (c : Byte) (s : State) : (s.offered c).calValid = s.calValid := rfl
@[simp] theorem State.offered_ut (c : Byte) (s : State) : (s.offered c).ut = s.ut := rfl
@[simp] theorem State.offered_up (c : Byte) (s : State) : (s.offered c).up = s.up := rfl
@[simp] theorem State.offered_tn (c : Byte) (s : State) : (s.offered c).tn = s.tn := rfl
@[simp] theorem State.offered_pn (c : Byte) (s : State) : (s.offered c).pn = s.pn := rfl
@[simp] theorem State.offered_temp (c : Byte) (s : State) : (s.offered c).temp = s.temp := rfl
@[simp] theorem State.offered_press (c : Byte) (s : State) : (s.offered c).press = s.press := rfl
@[simp] theorem State.offered_dataValid (c : Byte) (s : State) : (s.offered c).dataValid = s.dataValid := rfl
@[simp] theorem State.offered_seq (c : Byte) (s : State) : (s.offered c).seq = s.seq := rfl
@[simp] theorem State.offered_devState (c : Byte) (s : State) : (s.offered c).devState = s.devState := rfl
@[simp] theorem State.offered_err (c : Byte) (s : State) : (s.offered c).err = s.err := rfl
@[simp] theorem State.offered_waitcnt (c : Byte) (s : State) : (s.offered c).waitcnt = s.waitcnt := rfl
@[simp] theorem State.offered_cmdValid (c : Byte) (s : State) : (s.offered c).cmdValid = true := rfl
@[simp] theorem State.offered_cmd (c : Byte) (s : State) : (s.offered c).cmd = c := rfl
@[simp] theorem State.offered_busReq (c : Byte) (s : State) : (s.offered c).busReq = s.busReq := rfl
@[simp] theorem State.offered_busAns (c : Byte) (s : State) : (s.offered c).busAns = s.busAns := rfl
@[simp] theorem State.offered_requests (c : Byte) (s : State) : (s.offered c).requests = s.requests := rfl
@[simp] theorem State.offered_view (c : Byte) (s : State) : (s.offered c).view = s.view := rfl
@[simp] theorem State.offered_script (c : Byte) (s : State) : (s.offered c).script = s.script := rfl
@[simp] theorem State.offered_params (c : Byte) (s : State) : (s.offered c).params = s.params := rfl
@[simp] theorem State.offered_draws (c : Byte) (s : State) : (s.offered c).draws = s.draws := rfl

/-! An offer withdrawn (R102). -/

@[simp] theorem State.withdrawn_cal (s : State) : s.withdrawn.cal = s.cal := rfl
@[simp] theorem State.withdrawn_calValid (s : State) : s.withdrawn.calValid = s.calValid := rfl
@[simp] theorem State.withdrawn_ut (s : State) : s.withdrawn.ut = s.ut := rfl
@[simp] theorem State.withdrawn_up (s : State) : s.withdrawn.up = s.up := rfl
@[simp] theorem State.withdrawn_tn (s : State) : s.withdrawn.tn = s.tn := rfl
@[simp] theorem State.withdrawn_pn (s : State) : s.withdrawn.pn = s.pn := rfl
@[simp] theorem State.withdrawn_temp (s : State) : s.withdrawn.temp = s.temp := rfl
@[simp] theorem State.withdrawn_press (s : State) : s.withdrawn.press = s.press := rfl
@[simp] theorem State.withdrawn_dataValid (s : State) : s.withdrawn.dataValid = s.dataValid := rfl
@[simp] theorem State.withdrawn_seq (s : State) : s.withdrawn.seq = s.seq := rfl
@[simp] theorem State.withdrawn_devState (s : State) : s.withdrawn.devState = s.devState := rfl
@[simp] theorem State.withdrawn_err (s : State) : s.withdrawn.err = s.err := rfl
@[simp] theorem State.withdrawn_waitcnt (s : State) : s.withdrawn.waitcnt = s.waitcnt := rfl
@[simp] theorem State.withdrawn_cmdValid (s : State) : s.withdrawn.cmdValid = false := rfl
@[simp] theorem State.withdrawn_cmd (s : State) : s.withdrawn.cmd = s.cmd := rfl
@[simp] theorem State.withdrawn_busReq (s : State) : s.withdrawn.busReq = s.busReq := rfl
@[simp] theorem State.withdrawn_busAns (s : State) : s.withdrawn.busAns = s.busAns := rfl
@[simp] theorem State.withdrawn_requests (s : State) : s.withdrawn.requests = s.requests := rfl
@[simp] theorem State.withdrawn_view (s : State) : s.withdrawn.view = s.view := rfl
@[simp] theorem State.withdrawn_script (s : State) : s.withdrawn.script = s.script := rfl
@[simp] theorem State.withdrawn_params (s : State) : s.withdrawn.params = s.params := rfl
@[simp] theorem State.withdrawn_draws (s : State) : s.withdrawn.draws = s.draws := rfl

/-! An answer on the bus (R31, R32). -/

@[simp] theorem State.answered_cal (a : BusAnswer) (s : State) : (s.answered a).cal = s.cal := rfl
@[simp] theorem State.answered_calValid (a : BusAnswer) (s : State) : (s.answered a).calValid = s.calValid := rfl
@[simp] theorem State.answered_ut (a : BusAnswer) (s : State) : (s.answered a).ut = s.ut := rfl
@[simp] theorem State.answered_up (a : BusAnswer) (s : State) : (s.answered a).up = s.up := rfl
@[simp] theorem State.answered_tn (a : BusAnswer) (s : State) : (s.answered a).tn = s.tn := rfl
@[simp] theorem State.answered_pn (a : BusAnswer) (s : State) : (s.answered a).pn = s.pn := rfl
@[simp] theorem State.answered_temp (a : BusAnswer) (s : State) : (s.answered a).temp = s.temp := rfl
@[simp] theorem State.answered_press (a : BusAnswer) (s : State) : (s.answered a).press = s.press := rfl
@[simp] theorem State.answered_dataValid (a : BusAnswer) (s : State) : (s.answered a).dataValid = s.dataValid := rfl
@[simp] theorem State.answered_seq (a : BusAnswer) (s : State) : (s.answered a).seq = s.seq := rfl
@[simp] theorem State.answered_devState (a : BusAnswer) (s : State) : (s.answered a).devState = s.devState := rfl
@[simp] theorem State.answered_err (a : BusAnswer) (s : State) : (s.answered a).err = s.err := rfl
@[simp] theorem State.answered_waitcnt (a : BusAnswer) (s : State) : (s.answered a).waitcnt = s.waitcnt := rfl
@[simp] theorem State.answered_cmdValid (a : BusAnswer) (s : State) : (s.answered a).cmdValid = s.cmdValid := rfl
@[simp] theorem State.answered_cmd (a : BusAnswer) (s : State) : (s.answered a).cmd = s.cmd := rfl
@[simp] theorem State.answered_busReq (a : BusAnswer) (s : State) : (s.answered a).busReq = s.busReq := rfl
@[simp] theorem State.answered_busAns (a : BusAnswer) (s : State) : (s.answered a).busAns = some a := rfl
@[simp] theorem State.answered_requests (a : BusAnswer) (s : State) : (s.answered a).requests = s.requests := rfl
@[simp] theorem State.answered_view (a : BusAnswer) (s : State) : (s.answered a).view = s.view := rfl
@[simp] theorem State.answered_script (a : BusAnswer) (s : State) : (s.answered a).script = s.script := rfl
@[simp] theorem State.answered_params (a : BusAnswer) (s : State) : (s.answered a).params = s.params := rfl
@[simp] theorem State.answered_draws (a : BusAnswer) (s : State) : (s.answered a).draws = s.draws := rfl

/-! A host read (R107). -/

@[simp] theorem State.hostRead_cal (s : State) : s.hostRead.cal = s.cal := rfl
@[simp] theorem State.hostRead_calValid (s : State) : s.hostRead.calValid = s.calValid := rfl
@[simp] theorem State.hostRead_ut (s : State) : s.hostRead.ut = s.ut := rfl
@[simp] theorem State.hostRead_up (s : State) : s.hostRead.up = s.up := rfl
@[simp] theorem State.hostRead_tn (s : State) : s.hostRead.tn = s.tn := rfl
@[simp] theorem State.hostRead_pn (s : State) : s.hostRead.pn = s.pn := rfl
@[simp] theorem State.hostRead_temp (s : State) : s.hostRead.temp = s.temp := rfl
@[simp] theorem State.hostRead_press (s : State) : s.hostRead.press = s.press := rfl
@[simp] theorem State.hostRead_dataValid (s : State) : s.hostRead.dataValid = s.dataValid := rfl
@[simp] theorem State.hostRead_seq (s : State) : s.hostRead.seq = s.seq := rfl
@[simp] theorem State.hostRead_devState (s : State) : s.hostRead.devState = s.devState := rfl
@[simp] theorem State.hostRead_err (s : State) : s.hostRead.err = s.err := rfl
@[simp] theorem State.hostRead_waitcnt (s : State) : s.hostRead.waitcnt = s.waitcnt := rfl
@[simp] theorem State.hostRead_cmdValid (s : State) : s.hostRead.cmdValid = s.cmdValid := rfl
@[simp] theorem State.hostRead_cmd (s : State) : s.hostRead.cmd = s.cmd := rfl
@[simp] theorem State.hostRead_busReq (s : State) : s.hostRead.busReq = s.busReq := rfl
@[simp] theorem State.hostRead_busAns (s : State) : s.hostRead.busAns = s.busAns := rfl
@[simp] theorem State.hostRead_requests (s : State) : s.hostRead.requests = s.requests := rfl
@[simp] theorem State.hostRead_view (s : State) : s.hostRead.view = some s.hostViews := rfl
@[simp] theorem State.hostRead_script (s : State) : s.hostRead.script = s.script := rfl
@[simp] theorem State.hostRead_params (s : State) : s.hostRead.params = s.params := rfl
@[simp] theorem State.hostRead_draws (s : State) : s.hostRead.draws = s.draws + 1 := rfl

/-! Emitting a request (R38): only the bus port and the record of requests change. -/

@[simp] theorem State.emit_cal (r : BusRequest) (s : State) : (s.emit r).cal = s.cal := by
  unfold State.emit; split <;> rfl
@[simp] theorem State.emit_calValid (r : BusRequest) (s : State) : (s.emit r).calValid = s.calValid := by
  unfold State.emit; split <;> rfl
@[simp] theorem State.emit_ut (r : BusRequest) (s : State) : (s.emit r).ut = s.ut := by
  unfold State.emit; split <;> rfl
@[simp] theorem State.emit_up (r : BusRequest) (s : State) : (s.emit r).up = s.up := by
  unfold State.emit; split <;> rfl
@[simp] theorem State.emit_tn (r : BusRequest) (s : State) : (s.emit r).tn = s.tn := by
  unfold State.emit; split <;> rfl
@[simp] theorem State.emit_pn (r : BusRequest) (s : State) : (s.emit r).pn = s.pn := by
  unfold State.emit; split <;> rfl
@[simp] theorem State.emit_temp (r : BusRequest) (s : State) : (s.emit r).temp = s.temp := by
  unfold State.emit; split <;> rfl
@[simp] theorem State.emit_press (r : BusRequest) (s : State) : (s.emit r).press = s.press := by
  unfold State.emit; split <;> rfl
@[simp] theorem State.emit_dataValid (r : BusRequest) (s : State) : (s.emit r).dataValid = s.dataValid := by
  unfold State.emit; split <;> rfl
@[simp] theorem State.emit_seq (r : BusRequest) (s : State) : (s.emit r).seq = s.seq := by
  unfold State.emit; split <;> rfl
@[simp] theorem State.emit_devState (r : BusRequest) (s : State) : (s.emit r).devState = s.devState := by
  unfold State.emit; split <;> rfl
@[simp] theorem State.emit_err (r : BusRequest) (s : State) : (s.emit r).err = s.err := by
  unfold State.emit; split <;> rfl
@[simp] theorem State.emit_waitcnt (r : BusRequest) (s : State) : (s.emit r).waitcnt = s.waitcnt := by
  unfold State.emit; split <;> rfl
@[simp] theorem State.emit_cmdValid (r : BusRequest) (s : State) : (s.emit r).cmdValid = s.cmdValid := by
  unfold State.emit; split <;> rfl
@[simp] theorem State.emit_cmd (r : BusRequest) (s : State) : (s.emit r).cmd = s.cmd := by
  unfold State.emit; split <;> rfl
@[simp] theorem State.emit_busAns (r : BusRequest) (s : State) : (s.emit r).busAns = s.busAns := by
  unfold State.emit; split <;> rfl
@[simp] theorem State.emit_view (r : BusRequest) (s : State) : (s.emit r).view = s.view := by
  unfold State.emit; split <;> rfl
@[simp] theorem State.emit_script (r : BusRequest) (s : State) : (s.emit r).script = s.script := by
  unfold State.emit; split <;> rfl
@[simp] theorem State.emit_params (r : BusRequest) (s : State) : (s.emit r).params = s.params := by
  unfold State.emit; split <;> rfl
@[simp] theorem State.emit_draws (r : BusRequest) (s : State) : (s.emit r).draws = s.draws := by
  unfold State.emit; split <;> rfl

/-! A tick (R73): only WAITCNT changes. -/

@[simp] theorem State.ticked_cal (s : State) : s.ticked.cal = s.cal := by
  unfold State.ticked; split <;> rfl
@[simp] theorem State.ticked_calValid (s : State) : s.ticked.calValid = s.calValid := by
  unfold State.ticked; split <;> rfl
@[simp] theorem State.ticked_ut (s : State) : s.ticked.ut = s.ut := by
  unfold State.ticked; split <;> rfl
@[simp] theorem State.ticked_up (s : State) : s.ticked.up = s.up := by
  unfold State.ticked; split <;> rfl
@[simp] theorem State.ticked_tn (s : State) : s.ticked.tn = s.tn := by
  unfold State.ticked; split <;> rfl
@[simp] theorem State.ticked_pn (s : State) : s.ticked.pn = s.pn := by
  unfold State.ticked; split <;> rfl
@[simp] theorem State.ticked_temp (s : State) : s.ticked.temp = s.temp := by
  unfold State.ticked; split <;> rfl
@[simp] theorem State.ticked_press (s : State) : s.ticked.press = s.press := by
  unfold State.ticked; split <;> rfl
@[simp] theorem State.ticked_dataValid (s : State) : s.ticked.dataValid = s.dataValid := by
  unfold State.ticked; split <;> rfl
@[simp] theorem State.ticked_seq (s : State) : s.ticked.seq = s.seq := by
  unfold State.ticked; split <;> rfl
@[simp] theorem State.ticked_devState (s : State) : s.ticked.devState = s.devState := by
  unfold State.ticked; split <;> rfl
@[simp] theorem State.ticked_err (s : State) : s.ticked.err = s.err := by
  unfold State.ticked; split <;> rfl
@[simp] theorem State.ticked_cmdValid (s : State) : s.ticked.cmdValid = s.cmdValid := by
  unfold State.ticked; split <;> rfl
@[simp] theorem State.ticked_cmd (s : State) : s.ticked.cmd = s.cmd := by
  unfold State.ticked; split <;> rfl
@[simp] theorem State.ticked_busReq (s : State) : s.ticked.busReq = s.busReq := by
  unfold State.ticked; split <;> rfl
@[simp] theorem State.ticked_busAns (s : State) : s.ticked.busAns = s.busAns := by
  unfold State.ticked; split <;> rfl
@[simp] theorem State.ticked_requests (s : State) : s.ticked.requests = s.requests := by
  unfold State.ticked; split <;> rfl
@[simp] theorem State.ticked_view (s : State) : s.ticked.view = s.view := by
  unfold State.ticked; split <;> rfl
@[simp] theorem State.ticked_script (s : State) : s.ticked.script = s.script := by
  unfold State.ticked; split <;> rfl
@[simp] theorem State.ticked_params (s : State) : s.ticked.params = s.params := by
  unfold State.ticked; split <;> rfl
@[simp] theorem State.ticked_draws (s : State) : s.ticked.draws = s.draws := by
  unfold State.ticked; split <;> rfl

/-! A conversion wait (R68, R71): only SEQ changes. -/

@[simp] theorem State.waitThen_cal (p : Phase) (s : State) : (s.waitThen p).cal = s.cal := by
  unfold State.waitThen; split <;> rfl
@[simp] theorem State.waitThen_calValid (p : Phase) (s : State) : (s.waitThen p).calValid = s.calValid := by
  unfold State.waitThen; split <;> rfl
@[simp] theorem State.waitThen_ut (p : Phase) (s : State) : (s.waitThen p).ut = s.ut := by
  unfold State.waitThen; split <;> rfl
@[simp] theorem State.waitThen_up (p : Phase) (s : State) : (s.waitThen p).up = s.up := by
  unfold State.waitThen; split <;> rfl
@[simp] theorem State.waitThen_tn (p : Phase) (s : State) : (s.waitThen p).tn = s.tn := by
  unfold State.waitThen; split <;> rfl
@[simp] theorem State.waitThen_pn (p : Phase) (s : State) : (s.waitThen p).pn = s.pn := by
  unfold State.waitThen; split <;> rfl
@[simp] theorem State.waitThen_temp (p : Phase) (s : State) : (s.waitThen p).temp = s.temp := by
  unfold State.waitThen; split <;> rfl
@[simp] theorem State.waitThen_press (p : Phase) (s : State) : (s.waitThen p).press = s.press := by
  unfold State.waitThen; split <;> rfl
@[simp] theorem State.waitThen_dataValid (p : Phase) (s : State) : (s.waitThen p).dataValid = s.dataValid := by
  unfold State.waitThen; split <;> rfl
@[simp] theorem State.waitThen_devState (p : Phase) (s : State) : (s.waitThen p).devState = s.devState := by
  unfold State.waitThen; split <;> rfl
@[simp] theorem State.waitThen_err (p : Phase) (s : State) : (s.waitThen p).err = s.err := by
  unfold State.waitThen; split <;> rfl
@[simp] theorem State.waitThen_waitcnt (p : Phase) (s : State) : (s.waitThen p).waitcnt = s.waitcnt := by
  unfold State.waitThen; split <;> rfl
@[simp] theorem State.waitThen_cmdValid (p : Phase) (s : State) : (s.waitThen p).cmdValid = s.cmdValid := by
  unfold State.waitThen; split <;> rfl
@[simp] theorem State.waitThen_cmd (p : Phase) (s : State) : (s.waitThen p).cmd = s.cmd := by
  unfold State.waitThen; split <;> rfl
@[simp] theorem State.waitThen_busReq (p : Phase) (s : State) : (s.waitThen p).busReq = s.busReq := by
  unfold State.waitThen; split <;> rfl
@[simp] theorem State.waitThen_busAns (p : Phase) (s : State) : (s.waitThen p).busAns = s.busAns := by
  unfold State.waitThen; split <;> rfl
@[simp] theorem State.waitThen_requests (p : Phase) (s : State) : (s.waitThen p).requests = s.requests := by
  unfold State.waitThen; split <;> rfl
@[simp] theorem State.waitThen_view (p : Phase) (s : State) : (s.waitThen p).view = s.view := by
  unfold State.waitThen; split <;> rfl
@[simp] theorem State.waitThen_script (p : Phase) (s : State) : (s.waitThen p).script = s.script := by
  unfold State.waitThen; split <;> rfl
@[simp] theorem State.waitThen_params (p : Phase) (s : State) : (s.waitThen p).params = s.params := by
  unfold State.waitThen; split <;> rfl
@[simp] theorem State.waitThen_draws (p : Phase) (s : State) : (s.waitThen p).draws = s.draws := by
  unfold State.waitThen; split <;> rfl

@[simp] theorem State.emit_requests (r : BusRequest) (s : State) :
    (s.emit r).requests = if s.busReq = none then r :: s.requests else s.requests := by
  unfold State.emit; split <;> simp_all

/-! A transaction settled (R31, R32, R38). -/

@[simp] theorem State.settle_cal (r : BusRequest) (s : State) : (s.settle r).cal = s.cal := State.emit_cal r s
@[simp] theorem State.settle_calValid (r : BusRequest) (s : State) : (s.settle r).calValid = s.calValid := State.emit_calValid r s
@[simp] theorem State.settle_ut (r : BusRequest) (s : State) : (s.settle r).ut = s.ut := State.emit_ut r s
@[simp] theorem State.settle_up (r : BusRequest) (s : State) : (s.settle r).up = s.up := State.emit_up r s
@[simp] theorem State.settle_tn (r : BusRequest) (s : State) : (s.settle r).tn = s.tn := State.emit_tn r s
@[simp] theorem State.settle_pn (r : BusRequest) (s : State) : (s.settle r).pn = s.pn := State.emit_pn r s
@[simp] theorem State.settle_temp (r : BusRequest) (s : State) : (s.settle r).temp = s.temp := State.emit_temp r s
@[simp] theorem State.settle_press (r : BusRequest) (s : State) : (s.settle r).press = s.press := State.emit_press r s
@[simp] theorem State.settle_dataValid (r : BusRequest) (s : State) : (s.settle r).dataValid = s.dataValid := State.emit_dataValid r s
@[simp] theorem State.settle_seq (r : BusRequest) (s : State) : (s.settle r).seq = s.seq := State.emit_seq r s
@[simp] theorem State.settle_devState (r : BusRequest) (s : State) : (s.settle r).devState = s.devState := State.emit_devState r s
@[simp] theorem State.settle_err (r : BusRequest) (s : State) : (s.settle r).err = s.err := State.emit_err r s
@[simp] theorem State.settle_waitcnt (r : BusRequest) (s : State) : (s.settle r).waitcnt = s.waitcnt := State.emit_waitcnt r s
@[simp] theorem State.settle_cmdValid (r : BusRequest) (s : State) : (s.settle r).cmdValid = s.cmdValid := State.emit_cmdValid r s
@[simp] theorem State.settle_cmd (r : BusRequest) (s : State) : (s.settle r).cmd = s.cmd := State.emit_cmd r s
@[simp] theorem State.settle_busReq (r : BusRequest) (s : State) : (s.settle r).busReq = none := rfl
@[simp] theorem State.settle_busAns (r : BusRequest) (s : State) : (s.settle r).busAns = none := rfl
@[simp] theorem State.settle_requests (r : BusRequest) (s : State) :
    (s.settle r).requests = if s.busReq = none then r :: s.requests else s.requests := State.emit_requests r s
@[simp] theorem State.settle_view (r : BusRequest) (s : State) : (s.settle r).view = s.view := State.emit_view r s
@[simp] theorem State.settle_script (r : BusRequest) (s : State) : (s.settle r).script = s.script := State.emit_script r s
@[simp] theorem State.settle_params (r : BusRequest) (s : State) : (s.settle r).params = s.params := State.emit_params r s
@[simp] theorem State.settle_draws (r : BusRequest) (s : State) : (s.settle r).draws = s.draws := State.emit_draws r s

end Sys2Proof.Machine
end

