-- ==== Sys2Proof/Laws/Ops.lean ====
section
/-! SUPPORT. One specification lemma per shared operation: everything it can do, so that later proofs cite it and do not
unfold the operation. -/

namespace Sys2Proof.Machine

/-- On a free bus a request goes out and is recorded; an outstanding one keeps the bus (R38). -/
theorem State.emit_cases (r : BusRequest) (s : State) :
    (s.busReq = none ∧ s.emit r = { s with busReq := some r, requests := r :: s.requests }) ∨
      (s.busReq ≠ none ∧ s.emit r = s) := by
  unfold State.emit
  split
  · next h => exact .inr ⟨by simp [h], rfl⟩
  · next h => exact .inl ⟨h, rfl⟩

theorem State.emit_of_free {r : BusRequest} {s : State} (h : s.busReq = none) :
    s.emit r = { s with busReq := some r, requests := r :: s.requests } := by
  simp [State.emit, h]

theorem State.emit_of_busy {r : BusRequest} {s : State} (h : s.busReq ≠ none) : s.emit r = s := by
  obtain ⟨h', -⟩ | ⟨-, h'⟩ := s.emit_cases r
  · exact absurd h' h
  · exact h'

/-- What the bus port can say of a transaction, and when (R31, R32). -/
theorem State.busResult_cases (r : BusRequest) (s : State) :
    (s.busAns = none ∧ s.busResult r = .waiting) ∨
    ((s.busAns = some .fail ∨ ∃ bytes, s.busAns = some (.ok bytes) ∧ bytes.length < r.answerLength) ∧
      s.busResult r = .failed) ∨
    (∃ bytes, s.busAns = some (.ok bytes) ∧ bytes.length = r.answerLength ∧ s.busResult r = .done bytes) ∨
    (∃ bytes, s.busAns = some (.ok bytes) ∧ r.answerLength < bytes.length ∧ s.busResult r = .tooLong) := by
  unfold State.busResult
  rcases h : s.busAns with - | - | bytes
  · exact .inl ⟨rfl, rfl⟩
  · exact .inr (.inl ⟨.inl rfl, rfl⟩)
  · rcases Nat.lt_trichotomy bytes.length r.answerLength with hl | hl | hl
    · exact .inr (.inl ⟨.inr ⟨bytes, rfl, hl⟩, by simp [hl]⟩)
    · exact .inr (.inr (.inl ⟨bytes, rfl, hl, by simp [hl]⟩))
    · exact .inr (.inr (.inr ⟨bytes, rfl, hl, by simp [Nat.not_lt.2 hl.le, hl.ne']⟩))

/-- Everything a micro-operation with a bus transaction can answer (R10, R31, R32, R114; log 2, log 10). -/
theorem transact_cases (r : BusRequest) (onOk : List Byte → State → State) (s : State) :
    (s.busAns = none ∧ transact r onOk s = .next (s.emit r)) ∨
    ((s.busAns = some .fail ∨ ∃ bytes, s.busAns = some (.ok bytes) ∧ bytes.length < r.answerLength) ∧
      transact r onOk s = .next ((s.settle r).abort .ioError)) ∨
    (∃ bytes, s.busAns = some (.ok bytes) ∧ bytes.length = r.answerLength ∧
      transact r onOk s = .next (onOk bytes (s.settle r))) ∨
    (∃ bytes, s.busAns = some (.ok bytes) ∧ r.answerLength < bytes.length ∧
      transact r onOk s = .fault .answerTooLong) := by
  obtain ⟨h, hr⟩ | ⟨h, hr⟩ | ⟨b, h, hl, hr⟩ | ⟨b, h, hl, hr⟩ := s.busResult_cases r
  · exact .inl ⟨h, by simp [transact, hr]⟩
  · exact .inr (.inl ⟨h, by simp [transact, hr]⟩)
  · exact .inr (.inr (.inl ⟨b, h, hl, by simp [transact, hr]⟩))
  · exact .inr (.inr (.inr ⟨b, h, hl, by simp [transact, hr]⟩))

/-- A transaction that answers a next state: still waiting, failed, or done. -/
theorem transact_next {r : BusRequest} {onOk : List Byte → State → State} {s t : State}
    (h : transact r onOk s = .next t) :
    (s.busAns = none ∧ t = s.emit r) ∨
    ((s.busAns = some .fail ∨ ∃ bytes, s.busAns = some (.ok bytes) ∧ bytes.length < r.answerLength) ∧
      t = (s.settle r).abort .ioError) ∨
    ∃ bytes, s.busAns = some (.ok bytes) ∧ bytes.length = r.answerLength ∧ t = onOk bytes (s.settle r) := by
  obtain ⟨hb, he⟩ | ⟨hb, he⟩ | ⟨b, hb, hl, he⟩ | ⟨b, hb, hl, he⟩ := transact_cases r onOk s
  all_goals rw [he] at h
  · exact .inl ⟨hb, by simpa using h.symm⟩
  · exact .inr (.inl ⟨hb, by simpa using h.symm⟩)
  · exact .inr (.inr ⟨b, hb, hl, by simpa using h.symm⟩)
  · exact absurd h (by simp)

/-- A transaction's `onOk` runs on the answer and the settled bus port. -/
theorem transact_of_ok {r : BusRequest} {onOk : List Byte → State → State} {s : State} {bytes : List Byte}
    (h : s.busAns = some (.ok bytes)) (hl : bytes.length = r.answerLength) :
    transact r onOk s = .next (onOk bytes (s.settle r)) := by
  simp [transact, State.busResult, h, hl]

/-- A settled transaction's request is in the record, once. -/
theorem State.settle_eq (r : BusRequest) (s : State) :
    s.settle r = { s with busReq := none, busAns := none,
                          requests := if s.busReq = none then r :: s.requests else s.requests } := by
  obtain ⟨h, he⟩ | ⟨h, he⟩ := s.emit_cases r <;> simp [State.settle, he, h]

/-- A tick takes one off WAITCNT unless it is zero (R73). -/
theorem State.ticked_waitcnt (s : State) : s.ticked.waitcnt.toNat = s.waitcnt.toNat - 1 := by
  unfold State.ticked
  split
  · next h => simp [h]
  · next h =>
    have h0 : s.waitcnt.toNat ≠ 0 := fun h0 => h (BitVec.eq_of_toNat_eq (by simpa using h0))
    have := s.waitcnt.isLt
    simp only [BitVec.toNat_sub, BitVec.toNat_ofNat]
    omega

/-- A wait ends only at WAITCNT = 0 (R68, R71). -/
theorem State.waitThen_cases (p : Phase) (s : State) :
    (s.waitcnt = 0 ∧ s.waitThen p = { s with seq := p }) ∨ (s.waitcnt ≠ 0 ∧ s.waitThen p = s) := by
  unfold State.waitThen
  split
  · next h => exact .inl ⟨h, rfl⟩
  · next h => exact .inr ⟨h, rfl⟩

/-- COMP's next states: results staged, or the hazard's abort (R97, R98). -/
theorem execComp_next {s t : State} (h : execComp s = .next t) :
    s.calValid = true ∧
      ((∃ v p, compensate s.cal s.ut s.up = .ok (v, p) ∧ t = { s with tn := v, pn := p, seq := .upd }) ∨
        (compensate s.cal s.ut s.up = .error .hazard ∧ t = s.abort .arithmeticHazard)) := by
  unfold execComp at h
  split at h
  · next hv =>
    refine ⟨hv, ?_⟩
    rcases hc : compensate s.cal s.ut s.up with (- | -) | ⟨v, p⟩ <;> simp only [hc] at h
    · exact .inr ⟨rfl, by simpa using h.symm⟩
    · exact absurd h (by simp)
    · exact .inl ⟨v, p, rfl, by simpa using h.symm⟩
  · exact absurd h (by simp)

end Sys2Proof.Machine
end

