-- ==== Sys2Proof/Laws/PerInstr.lean ====
section
/-! SUPPORT. The per-instruction family RoundTrip: what the encoding tables say of each row (R47, R48, R52), one lemma a row. -/

namespace Sys2Proof.Laws.RoundTrip

/-- The row is well-formed, and its encoding decodes to it. -/
def Statement (i : Instr) : Prop :=
  i.wellFormed = true ∧ decode (encode i) = .ok i

theorem init : Statement .init := ⟨rfl, by decide⟩
theorem refresh : Statement .refresh := ⟨rfl, by decide⟩
theorem idle : Statement .idle := ⟨rfl, by decide⟩
theorem calrd : Statement .calrd := ⟨rfl, by decide⟩
theorem tcmd : Statement .tcmd := ⟨rfl, by decide⟩
theorem twait : Statement .twait := ⟨rfl, by decide⟩
theorem tread : Statement .tread := ⟨rfl, by decide⟩
theorem pcmd : Statement .pcmd := ⟨rfl, by decide⟩
theorem pwait : Statement .pwait := ⟨rfl, by decide⟩
theorem pread : Statement .pread := ⟨rfl, by decide⟩
theorem comp : Statement .comp := ⟨rfl, by decide⟩
theorem upd : Statement .upd := ⟨rfl, by decide⟩
theorem rdCal : Statement .rdCal := ⟨rfl, by decide⟩
theorem wrTemp : Statement .wrTemp := ⟨rfl, by decide⟩
theorem rdT : Statement .rdT := ⟨rfl, by decide⟩
theorem wrPres : Statement .wrPres := ⟨rfl, by decide⟩
theorem rdP : Statement .rdP := ⟨rfl, by decide⟩

end Sys2Proof.Laws.RoundTrip
end

