-- ==== Sys2Proof/Laws/Step.lean ====
section
/-! SUPPORT. What the sequencer's turn is at each phase, and the inversion of a step: if a step answers a next state, then one
of these cases holds. Every whole-machine proof starts from `step_next`. -/

namespace Sys2Proof.Machine

/-- The sequencer's turn at rest: the offered command, or IDLE (R102). -/
theorem turn_idle {s : State} (h : s.seq = .idle) :
    turn s = if s.cmdValid then
        if s.cmd = 0x01#8 then execInit s else if s.cmd = 0x02#8 then execRefresh s else execReserved s
      else .next s := by
  by_cases hc : s.cmdValid = true
  · by_cases h1 : s.cmd = 0x01#8
    · simp [turn, State.fetch, h, hc, decode, decodeCommand, h1, exec]
    · by_cases h2 : s.cmd = 0x02#8
      · simp [turn, State.fetch, h, hc, decode, decodeCommand, h2, exec]
      · simp [turn, State.fetch, h, hc, decode, decodeCommand, h1, h2]
  · simp [turn, State.fetch, h, hc, Phase.request?, Phase.code, decode, decodePhase, exec, execIdle]

theorem decode_rdCal : decode (.request (packRequest .rdCal)) = .ok .rdCal := by decide
theorem decode_wrTemp : decode (.request (packRequest .wrTemp)) = .ok .wrTemp := by decide
theorem decode_rdT : decode (.request (packRequest .rdT)) = .ok .rdT := by decide
theorem decode_wrPres : decode (.request (packRequest .wrPres)) = .ok .wrPres := by decide
theorem decode_rdP : decode (.request (packRequest .rdP)) = .ok .rdP := by decide

/-- At a bus phase the fetched code is the phase's request or the phase itself. -/
theorem State.fetch_busPhase {s : State} {r : BusRequest} (h : s.seq.request? = some r) :
    (s.busReq = none ∧ s.busAns = none ∧ s.fetch = .request (packRequest r)) ∨ s.fetch = .phase s.seq.code := by
  have hi : ¬(s.seq = .idle ∧ s.cmdValid = true) := fun hi => by simp [hi.1, Phase.request?] at h
  unfold State.fetch
  rw [if_neg hi, h]
  split
  · next h' => exact .inl ⟨by assumption, by assumption, by simp_all⟩
  · exact .inr rfl

/-- With nothing on the bus and no answer, a transaction only emits its request. -/
theorem transact_of_free {r : BusRequest} {onOk : List Byte → State → State} {s : State} (h : s.busAns = none) :
    transact r onOk s = .next (s.emit r) := by
  simp [transact, State.busResult, h]

/-- At the bus phases the turn is the phase's micro-operation, whichever of the two codes is fetched. -/
theorem turn_calrd {s : State} (h : s.seq = .calrd) : turn s = execCalrd s := by
  obtain ⟨-, ha, hf⟩ | hf := State.fetch_busPhase (s := s) (r := .rdCal) (by rw [h]; rfl)
  · rw [turn, hf, decode_rdCal, execCalrd, transact_of_free ha]; rfl
  · rw [turn, hf, h]; rfl

theorem turn_tcmd {s : State} (h : s.seq = .tcmd) : turn s = execTcmd s := by
  obtain ⟨-, ha, hf⟩ | hf := State.fetch_busPhase (s := s) (r := .wrTemp) (by rw [h]; rfl)
  · rw [turn, hf, decode_wrTemp, execTcmd, transact_of_free ha]; rfl
  · rw [turn, hf, h]; rfl

theorem turn_tread {s : State} (h : s.seq = .tread) : turn s = execTread s := by
  obtain ⟨-, ha, hf⟩ | hf := State.fetch_busPhase (s := s) (r := .rdT) (by rw [h]; rfl)
  · rw [turn, hf, decode_rdT, execTread, transact_of_free ha]; rfl
  · rw [turn, hf, h]; rfl

theorem turn_pcmd {s : State} (h : s.seq = .pcmd) : turn s = execPcmd s := by
  obtain ⟨-, ha, hf⟩ | hf := State.fetch_busPhase (s := s) (r := .wrPres) (by rw [h]; rfl)
  · rw [turn, hf, decode_wrPres, execPcmd, transact_of_free ha]; rfl
  · rw [turn, hf, h]; rfl

theorem turn_pread {s : State} (h : s.seq = .pread) : turn s = execPread s := by
  obtain ⟨-, ha, hf⟩ | hf := State.fetch_busPhase (s := s) (r := .rdP) (by rw [h]; rfl)
  · rw [turn, hf, decode_rdP, execPread, transact_of_free ha]; rfl
  · rw [turn, hf, h]; rfl

/-- At the phases without a bus transaction the fetched code is the phase's. -/
theorem State.fetch_innerPhase {s : State} (hi : s.seq ≠ .idle) (h : s.seq.request? = none) :
    s.fetch = .phase s.seq.code := by
  unfold State.fetch
  rw [if_neg (fun h' => hi h'.1), h]

theorem turn_twait {s : State} (h : s.seq = .twait) : turn s = execTwait s := by
  rw [turn, State.fetch_innerPhase (by simp [h]) (by rw [h]; rfl), h]; rfl

theorem turn_pwait {s : State} (h : s.seq = .pwait) : turn s = execPwait s := by
  rw [turn, State.fetch_innerPhase (by simp [h]) (by rw [h]; rfl), h]; rfl

theorem turn_comp {s : State} (h : s.seq = .comp) : turn s = execComp s := by
  rw [turn, State.fetch_innerPhase (by simp [h]) (by rw [h]; rfl), h]; rfl

theorem turn_upd {s : State} (h : s.seq = .upd) : turn s = execUpd s := by
  rw [turn, State.fetch_innerPhase (by simp [h]) (by rw [h]; rfl), h]; rfl

/-- At the five bus phases the turn is a transaction for the phase's request. -/
theorem turn_busPhase {s : State} {r : BusRequest} (h : s.seq.request? = some r) :
    ∃ onOk, turn s = transact r onOk s := by
  cases hp : s.seq <;> rw [hp] at h <;> simp only [Phase.request?, reduceCtorEq, Option.some.injEq] at h <;> subst h
  · exact ⟨_, turn_calrd hp⟩
  · exact ⟨_, turn_tcmd hp⟩
  · exact ⟨_, turn_tread hp⟩
  · exact ⟨_, turn_pcmd hp⟩
  · exact ⟨_, turn_pread hp⟩

/-- What the sequencer's turn does to reach a next state, phase by phase. -/
inductive TurnTo (s : State) : State → Prop
  /-- SEQ = IDLE, nothing offered -/
  | rest : s.seq = .idle → s.cmdValid = false → TurnTo s s
  /-- INIT accepted (R103) -/
  | acceptInit : s.seq = .idle → s.cmdValid = true → s.cmd = 0x01#8 → TurnTo s (s.acceptCommand .calrd)
  /-- REFRESH accepted (R104) -/
  | acceptRefresh : s.seq = .idle → s.cmdValid = true → s.cmd = 0x02#8 → s.calValid = true →
      TurnTo s (s.acceptCommand .tcmd)
  /-- REFRESH rejected (R104) -/
  | rejectRefresh : s.seq = .idle → s.cmdValid = true → s.cmd = 0x02#8 → s.calValid = false → TurnTo s s.rejectCommand
  /-- a reserved code rejected (R105) -/
  | rejectReserved : s.seq = .idle → s.cmdValid = true → s.cmd ≠ 0x01#8 → s.cmd ≠ 0x02#8 → TurnTo s s.rejectCommand
  /-- a transaction not yet answered (R10, R129) -/
  | waiting (r : BusRequest) : s.seq.request? = some r → s.busAns = none → TurnTo s (s.emit r)
  /-- a transaction that failed (R111, R114) -/
  | failed (r : BusRequest) : s.seq.request? = some r →
      (s.busAns = some .fail ∨ ∃ bytes, s.busAns = some (.ok bytes) ∧ bytes.length < r.answerLength) →
      TurnTo s ((s.settle r).abort .ioError)
  /-- CALRD done (R60) -/
  | calrd (bytes : List Byte) : s.seq = .calrd → s.busAns = some (.ok bytes) → bytes.length = 22 →
      TurnTo s (loadCalibration bytes (s.settle .rdCal))
  /-- TCMD done (R67) -/
  | tcmd (bytes : List Byte) : s.seq = .tcmd → s.busAns = some (.ok bytes) →
      TurnTo s (startTemperature bytes (s.settle .wrTemp))
  /-- TREAD done (R69) -/
  | tread (bytes : List Byte) : s.seq = .tread → s.busAns = some (.ok bytes) → bytes.length = 2 →
      TurnTo s (storeTemperature bytes (s.settle .rdT))
  /-- PCMD done (R70) -/
  | pcmd (bytes : List Byte) : s.seq = .pcmd → s.busAns = some (.ok bytes) →
      TurnTo s (startPressure bytes (s.settle .wrPres))
  /-- PREAD done (R72) -/
  | pread (bytes : List Byte) : s.seq = .pread → s.busAns = some (.ok bytes) → bytes.length = 3 →
      TurnTo s (storePressure bytes (s.settle .rdP))
  /-- a wait over (R68, R71) -/
  | waitOver : s.seq = .twait ∨ s.seq = .pwait → s.waitcnt = 0 → TurnTo s { s with seq := s.seq.successor }
  /-- a wait not over (R68, R71) -/
  | waitOn : s.seq = .twait ∨ s.seq = .pwait → s.waitcnt ≠ 0 → TurnTo s s
  /-- COMP done (R98) -/
  | comp (v p : Word) : s.seq = .comp → s.calValid = true → compensate s.cal s.ut s.up = .ok (v, p) →
      TurnTo s { s with tn := v, pn := p, seq := .upd }
  /-- COMP at a zero divisor (R97) -/
  | hazard : s.seq = .comp → s.calValid = true → TurnTo s (s.abort .arithmeticHazard)
  /-- UPD (R106) -/
  | upd : s.seq = .upd →
      TurnTo s { s with temp := s.tn, press := s.pn, dataValid := true, devState := .ready, seq := .idle }

theorem transact_turnTo {s t : State} {r : BusRequest} {onOk : List Byte → State → State}
    (hr : s.seq.request? = some r) (h : transact r onOk s = .next t)
    (ok : ∀ bytes, s.busAns = some (.ok bytes) → bytes.length = r.answerLength →
      TurnTo s (onOk bytes (s.settle r))) : TurnTo s t := by
  obtain ⟨ha, rfl⟩ | ⟨ha, rfl⟩ | ⟨bytes, ha, hl, rfl⟩ := transact_next h
  · exact .waiting r hr ha
  · exact .failed r hr ha
  · exact ok bytes ha hl

/-- The inversion of the sequencer's turn. -/
theorem turn_next {s t : State} (h : turn s = .next t) : TurnTo s t := by
  rcases hp : s.seq
  case idle =>
    rw [turn_idle hp] at h
    have hb : s.busy = false := by simp [State.busy, hp]
    split at h
    · next hc =>
      split at h
      · next h1 =>
        simp only [execInit, hb, Bool.false_eq_true, if_false, Host.Outcome.next.injEq] at h
        exact h ▸ .acceptInit hp hc h1
      · next h1 =>
        split at h
        · next h2 =>
          by_cases hv : s.calValid = true <;>
            simp only [execRefresh, hb, hv, Bool.false_eq_true, if_false, if_true, Host.Outcome.next.injEq] at h
          · exact h ▸ .acceptRefresh hp hc h2 hv
          · exact h ▸ .rejectRefresh hp hc h2 (by simpa using hv)
        · next h2 =>
          simp only [execReserved, hb, Bool.false_eq_true, if_false, Host.Outcome.next.injEq] at h
          exact h ▸ .rejectReserved hp hc h1 h2
    · next hc =>
      simp only [Host.Outcome.next.injEq] at h
      exact h ▸ .rest hp (by simpa using hc)
  case calrd =>
    exact transact_turnTo (by rw [hp]; rfl) ((turn_calrd hp).symm.trans h) fun b ha hl => .calrd b hp ha hl
  case tcmd => exact transact_turnTo (by rw [hp]; rfl) ((turn_tcmd hp).symm.trans h) fun b ha _ => .tcmd b hp ha
  case tread => exact transact_turnTo (by rw [hp]; rfl) ((turn_tread hp).symm.trans h) fun b ha hl => .tread b hp ha hl
  case pcmd => exact transact_turnTo (by rw [hp]; rfl) ((turn_pcmd hp).symm.trans h) fun b ha _ => .pcmd b hp ha
  case pread => exact transact_turnTo (by rw [hp]; rfl) ((turn_pread hp).symm.trans h) fun b ha hl => .pread b hp ha hl
  case twait =>
    simp only [turn_twait hp, execTwait, Host.Outcome.next.injEq] at h
    obtain ⟨hw, he⟩ | ⟨hw, he⟩ := s.waitThen_cases .tread <;> rw [he] at h <;> subst h
    · simpa [hp, Phase.successor] using TurnTo.waitOver (.inl hp) hw
    · exact .waitOn (.inl hp) hw
  case pwait =>
    simp only [turn_pwait hp, execPwait, Host.Outcome.next.injEq] at h
    obtain ⟨hw, he⟩ | ⟨hw, he⟩ := s.waitThen_cases .pread <;> rw [he] at h <;> subst h
    · simpa [hp, Phase.successor] using TurnTo.waitOver (.inr hp) hw
    · exact .waitOn (.inr hp) hw
  case comp =>
    obtain ⟨hv, ⟨v, p, hc, rfl⟩ | ⟨-, rfl⟩⟩ := execComp_next ((turn_comp hp).symm.trans h)
    · exact .comp v p hp hv hc
    · exact .hazard hp hv
  case upd =>
    simp only [turn_upd hp, execUpd, Host.Outcome.next.injEq] at h
    exact h ▸ .upd hp

/-- What one step does to reach a next state. -/
inductive StepTo (s : State) : State → Prop
  | rst (rest : List Event) : s.script = .rst :: rest → StepTo s (State.resetStep { s with script := rest })
  | tick (rest : List Event) : s.script = .tick :: rest → StepTo s (State.ticked { s with script := rest })
  | read (rest : List Event) : s.script = .read :: rest → StepTo s (State.hostRead { s with script := rest })
  | withdraw (rest : List Event) : s.script = .withdraw :: rest → StepTo s (State.withdrawn { s with script := rest })
  /-- an offer to a busy CSB waits (R102) -/
  | offerHeld (code : Byte) (rest : List Event) : s.script = .offer code :: rest → s.seq ≠ .idle →
      StepTo s (State.offered code { s with script := rest })
  /-- an offer to an idle CSB is taken in the same step (R102) -/
  | offerTaken (code : Byte) (rest : List Event) (t : State) : s.script = .offer code :: rest → s.seq = .idle →
      TurnTo (State.offered code { s with script := rest }) t → StepTo s t
  /-- an answer that belongs to no transaction (R126) -/
  | ignored (a : BusAnswer) (rest : List Event) :
      (s.script = .lateAnswer a :: rest ∨ s.script = .answer a :: rest ∧ s.seq.request? = none) →
      StepTo s { s with script := rest }
  /-- an answer to the current phase's transaction (R10) -/
  | answered (a : BusAnswer) (rest : List Event) (r : BusRequest) (t : State) : s.script = .answer a :: rest →
      s.seq.request? = some r → TurnTo (State.answered a { s with script := rest }) t → StepTo s t
  /-- the sequencer's own step -/
  | run (rest : List Event) (t : State) : (s.script = [] ∧ rest = [] ∨ s.script = .run :: rest) →
      TurnTo { s with script := rest } t → StepTo s t

/-- The inversion of a step: every next state is reached in one of the ways of `StepTo`. -/
theorem step_next {s t : State} (h : step s = .next t) : StepTo s t := by
  unfold step at h
  rcases hs : s.script with - | ⟨e, rest⟩ <;> simp only [hs] at h
  · have hself : { s with script := [] } = s := by rw [← hs]
    exact .run [] t (.inl ⟨hs, rfl⟩) (by rw [hself]; exact turn_next h)
  · cases e
    case rst => exact (by simpa [perform] using h.symm : t = _) ▸ .rst rest hs
    case tick => exact (by simpa [perform] using h.symm : t = _) ▸ .tick rest hs
    case read => exact (by simpa [perform] using h.symm : t = _) ▸ .read rest hs
    case withdraw => exact (by simpa [perform] using h.symm : t = _) ▸ .withdraw rest hs
    case lateAnswer a => exact (by simpa [perform] using h.symm : t = _) ▸ .ignored a rest (.inl hs)
    case run => exact .run rest t (.inr hs) (turn_next h)
    case offer code =>
      simp only [perform, State.busy, bne_iff_ne] at h
      split at h
      · next hb => exact (by simpa using h.symm : t = _) ▸ .offerHeld code rest hs hb
      · next hb => exact .offerTaken code rest t hs (by simpa using hb) (turn_next h)
    case answer a =>
      simp only [perform] at h
      rcases hr : s.seq.request? with - | r <;> simp only [hr, Option.isSome_none, Option.isSome_some] at h
      · exact (by simpa using h.symm : t = _) ▸ .ignored a rest (.inr ⟨hs, hr⟩)
      · exact .answered a rest r t hs hr (turn_next (by simpa using h))

end Sys2Proof.Machine
end

