-- ==== Sys2Proof/Laws/Run.lean ====
section
/-! SUPPORT. Runs of several steps, taken apart: one step first, or a first part that is known to end in a next state. -/

namespace Sys2Proof.Machine

theorem run_zero (s : State) : Sys2Proof.core.run 0 s = .next s := rfl

/-- A run whose first step is known. -/
theorem run_succ {n : Nat} {s t : State} (h : step s = .next t) :
    Sys2Proof.core.run (n + 1) s = Sys2Proof.core.run n t := by
  have h' : Sys2Proof.core.step s = .next t := h
  simp only [Host.Core.run, h']

/-- A run whose first `m` steps are known. -/
theorem run_add {m n : Nat} {s t : State} (h : Sys2Proof.core.run m s = .next t) :
    Sys2Proof.core.run (m + n) s = Sys2Proof.core.run n t := by
  induction m generalizing s with
  | zero => rw [run_zero] at h; cases h; simp
  | succ m ih =>
    rw [Nat.add_right_comm]
    rcases hs : step s with u | f | r
    · rw [run_succ hs] at h ⊢; exact ih h
    · have hs' : Sys2Proof.core.step s = .fault f := hs
      simp [Host.Core.run, hs'] at h
    · have hs' : Sys2Proof.core.step s = .refused r := hs
      simp [Host.Core.run, hs'] at h

end Sys2Proof.Machine
end

