-- ==== Sys2Proof/Tests/Slice0.lean ====
section
/-! SUPPORT. Tests whose expected results are the spec's own (spec/95_test_vectors.md, spec/30_encoding.md; the vector's name
stands in the comment), and for every statement with hypotheses a witness that meets them all. -/

namespace Sys2Proof.Tests

open Sys2Proof.Machine

/-- The next state of an outcome. -/
def next? (o : Host.Outcome State Fault Refusal) : Option State :=
  match o with
  | .next s => some s
  | .fault _ => none
  | .refused _ => none

/-- Calibration E of 95_test_vectors.md. -/
def calE : Calib where
  ac1 := 408#16
  ac2 := -72#16
  ac3 := -14383#16
  ac4 := 32741#16
  ac5 := 32757#16
  ac6 := 23153#16
  b1 := 6190#16
  b2 := 4#16
  mb := -32768#16
  mc := -8711#16
  md := 2868#16

/-- The answer of vector CAL1. -/
def blockE : List Byte :=
  [0x01, 0x98, 0xFF, 0xB8, 0xC7, 0xD1, 0x7F, 0xE5, 0x7F, 0xF5, 0x5A, 0x71, 0x18, 0x2E, 0x00, 0x04, 0x80, 0x00, 0xDD, 0xF9,
    0x0B, 0x34]

/-- The end state of program P1, with N_WAIT = 3: idle, Ready, reading (150, 69964). -/
def rest : State :=
  { State.reset with
    cal := calE, calValid := true, ut := 27898#32, up := 23843#32, tn := 150#32, pn := 69964#32, temp := 150#32,
    press := 69964#32, dataValid := true, devState := .ready, params := ⟨3#16, 3000, 5000⟩ }

/-- `rest` in the middle of a cycle, at phase `p`. -/
def amid (p : Phase) : State :=
  { rest with seq := p, devState := .measuring }

/-- `s` with one event of the environment to come. -/
def facing (e : Event) (s : State) : State :=
  { s with script := [e] }

/-! Well-formedness: each check refuses an ill-formed term. -/

theorem test_wf_request_device : BusRequest.wellFormed ⟨.read, 0x76#7, 0xF6#8, 2#8⟩ = false := by decide
theorem test_wf_request_register : BusRequest.wellFormed ⟨.write, 0x77#7, 0xF5#8, 0x2E#8⟩ = false := by decide
theorem test_wf_request_count : BusRequest.wellFormed ⟨.read, 0x77#7, 0xF6#8, 4#8⟩ = false := by decide
theorem test_wf_request_control_read : BusRequest.wellFormed ⟨.read, 0x77#7, 0xF4#8, 1#8⟩ = false := by decide
theorem test_wf_request_five :
    ([.rdCal, .wrTemp, .rdT, .wrPres, .rdP] : List BusRequest).all BusRequest.wellFormed = true := by decide
theorem test_wf_answer_too_long : BusAnswer.fits .rdT (.ok [1, 2, 3]) = false := by decide
theorem test_wf_write_answer_with_bytes : BusAnswer.fits .wrTemp (.ok [0]) = false := by decide
theorem test_wf_params_zero : Params.legal ⟨0#16, 1000, 0⟩ = false := by decide
theorem test_wf_params_short : Params.legal ⟨6#16, 999, 5000⟩ = false := by decide
theorem test_wf_params_bound : Params.legal ⟨6#16, 1000, 5000⟩ = true := by decide
theorem test_wf_command_reserved : commandAssigned 0x00#8 = false ∧ commandAssigned 0x03#8 = false := by decide

/-! Decoding: words written out bit by bit from the tables of R47, R48 and R52 (bits 23 rw, 22:16 dev, 15:8 reg, 7:0 arg). -/

theorem test_decode_init : decode (.command 0b00000001#8) = .ok .init := by decide
theorem test_decode_refresh : decode (.command 0b00000010#8) = .ok .refresh := by decide
theorem test_decode_idle : decode (.phase 0b0000#4) = .ok .idle := by decide
theorem test_decode_calrd : decode (.phase 0b0001#4) = .ok .calrd := by decide
theorem test_decode_tcmd : decode (.phase 0b0010#4) = .ok .tcmd := by decide
theorem test_decode_twait : decode (.phase 0b0011#4) = .ok .twait := by decide
theorem test_decode_tread : decode (.phase 0b0100#4) = .ok .tread := by decide
theorem test_decode_pcmd : decode (.phase 0b0101#4) = .ok .pcmd := by decide
theorem test_decode_pwait : decode (.phase 0b0110#4) = .ok .pwait := by decide
theorem test_decode_pread : decode (.phase 0b0111#4) = .ok .pread := by decide
theorem test_decode_comp : decode (.phase 0b1000#4) = .ok .comp := by decide
theorem test_decode_upd : decode (.phase 0b1001#4) = .ok .upd := by decide
theorem test_decode_rdCal : decode (.request 0b1_1110111_10101010_00010110#24) = .ok .rdCal := by decide
theorem test_decode_wrTemp : decode (.request 0b0_1110111_11110100_00101110#24) = .ok .wrTemp := by decide
theorem test_decode_rdT : decode (.request 0b1_1110111_11110110_00000010#24) = .ok .rdT := by decide
theorem test_decode_wrPres : decode (.request 0b0_1110111_11110100_00110100#24) = .ok .wrPres := by decide
theorem test_decode_rdP : decode (.request 0b1_1110111_11110110_00000011#24) = .ok .rdP := by decide

/-- Reading 0xF6 with the direction bit off is no request of CSB (R55). -/
theorem test_decode_wrong_direction :
    decode (.request 0b0_1110111_11110110_00000010#24) = .error (.unknownRequest 0x77F602#24) := by decide
theorem test_decode_unused_phase : decode (.phase 0b1111#4) = .error (.unusedPhase 15#4) := by decide

/-- The table's words, and a step of each length from reset (R47, R48, R52). -/
theorem test_table_words :
    decodeTableWord 8 0x01 = some .init ∧ decodeTableWord 4 0x1 = some .calrd ∧ decodeTableWord 8 0x9 = some .upd ∧
      decodeTableWord 24 0xF7F603 = some .rdP ∧ decodeTableWord 8 0x7F = none ∧ decodeTableWord 4 0xA = none := by decide

theorem test_fetch_word_runs_command :
    (next? (step (State.reset.withFetchWord 8 0x01))).map (·.seq) = some .calrd := by decide
theorem test_fetch_word_runs_phase :
    (next? (step (State.reset.withFetchWord 4 0x4))).map (·.seq) = some .pcmd := by decide
theorem test_fetch_word_runs_request :
    (next? (step (State.reset.withFetchWord 24 0xF7F602))).map (·.requests) = some [.rdT] := by decide

/-! Arithmetic laws, vectors A1 to A10. -/

theorem test_shifts_A1_A4 :
    ([(-1, 4), (-614, 4), (-16, 4), (15, 4)] : List (Int × Nat)).map (fun x => (asr (toS32 x.1) x.2).toInt) =
        [-1, -39, -1, 0] ∧ (shlS (sext32 (-8711#16)) 11).toInt = -17840128 := by decide
theorem test_divisions_A3 : ([(-17840128, 7611), (-17840128, 1715), (-17840128, -284), (-341, 4), (7, 4), (-7, 4)] :
    List (Int × Int)).map (fun x => (tdiv (toS32 x.1) (toS32 x.2)).map (·.toInt)) =
      [some (-2343), some (-10402), some 62817, some (-85), some 1, some (-1)] := by decide
theorem test_unsigned_steps_A5_A6_A7 :
    (compB4 (widen calE) (toS32 (-40000))).toNat = 123845 ∧
      (compB4 (widen { calE with ac4 := 65535#16 }) (toS32 40000)).toNat = 14461 ∧
      (compB7 0#32 422#32).toNat = 4273867296 := by decide
theorem test_step_ten_A8_A9_A10 :
    compP 1#32 0x80000001#32 = .ok 2#32 ∧ compP 1#32 0x7FFFFFFF#32 = .ok (toS32 (-2)) ∧
      compP 33457#32 2147450000#32 = .ok 128370#32 ∧ compP 33457#32 2147500000#32 = .ok 128372#32 := by decide

/-! The pipeline, vectors V1, V2, V5, V7 (two operations wrap), V9 to V11, V17, V20. -/

theorem test_pipeline_by_samples :
    ([(27898, 23843), (22000, 23843), (27898, 65535), (20284, 23843), (65535, 65535)] : List (Nat × Nat)).map
      (fun x => (compensate calE (BitVec.ofNat 32 x.1) (BitVec.ofNat 32 x.2)).toOption) =
      [some (150#32, 69964#32), some (toS32 (-722), 56796#32), some (150#32, 195160#32), some (1114829#32, 12249#32),
        some (2623#32, 813104#32)] := by decide
theorem test_pipeline_by_coefficients :
    ([{ calE with ac4 := 40000#16 }, { calE with ac1 := -100#16 }, { calE with ac4 := 65535#16 }, { calE with mb := 0#16 }] :
      List Calib).map (fun c => (compensate c 27898#32 23843#32).toOption) =
      [some (150#32, 57277#32), some (150#32, 71478#32), some (150#32, 35018#32), some (150#32, 69964#32)] ∧
    compensate { calE with ac4 := 0#16 } 27898#32 23843#32 = .error .hazard := by decide

/-- V1 through the second writing of the pipeline, with the intermediate values the vector prints. -/
theorem test_V1_trace :
    (Reference.trace Reference.wrap calE 27898 23843).x2Step2 = -2343 ∧
      (Reference.trace Reference.wrap calE 27898 23843).x3Step7 = 717 ∧
      (Reference.trace Reference.wrap calE 27898 23843).b4 = 33457 ∧
      (Reference.trace Reference.wrap calE 27898 23843).p = 70003 := by decide

/-! One step each: vectors CAL1 to CAL8, SEQ1 to SEQ23, CMD1 to CMD12. -/

theorem test_CAL1 :
    (next? (step (facing (.answer (.ok blockE)) (amid .calrd)))).map (fun t => (t.cal, t.calValid, t.seq)) =
      some (calE, true, .tcmd) := by decide
theorem test_CAL8_short :
    (next? (step (facing (.answer (.ok (blockE.take 21))) { State.reset with seq := .calrd }))).map
      (fun t => (t.cal, t.calValid, t.err, t.devState)) = some (State.reset.cal, false, .ioError, .error) := by decide
theorem test_SEQ14 :
    (next? (step (facing (.answer (.ok [])) { rest with seq := .tcmd }))).map (fun t => (t.devState, t.waitcnt, t.seq)) =
      some (.measuring, 3#16, .twait) := by decide
theorem test_SEQ15_failed_write :
    (next? (step (facing (.answer .fail) { rest with seq := .tcmd }))).map (fun t => (t.devState, t.err, t.seq)) =
      some (.error, .ioError, .idle) := by decide
theorem test_SEQ16_wait_holds : (next? (step (facing .run { amid .twait with waitcnt := 1#16 }))).map (·.seq) = some .twait := by
  decide
theorem test_SEQ18_tick_no_wrap : (next? (step (facing .tick (amid .twait)))).map (·.waitcnt) = some 0#16 := by decide
theorem test_SEQ19 : (next? (step (facing .run (amid .twait)))).map (·.seq) = some .tread := by decide
theorem test_SEQ1 :
    (next? (step (facing (.answer (.ok [0x6C, 0xFA])) (amid .tread)))).map (fun t => (t.ut, t.seq)) =
      some (27898#32, .pcmd) := by decide
theorem test_SEQ2_not_signed :
    (next? (step (facing (.answer (.ok [0xFF, 0xFF])) (amid .tread)))).map (·.ut.toInt) = some 65535 := by decide
theorem test_SEQ20 :
    (next? (step (facing (.answer (.ok [])) (amid .pcmd)))).map (fun t => (t.devState, t.waitcnt, t.seq)) =
      some (.measuring, 3#16, .pwait) := by decide
theorem test_SEQ21 :
    (next? (step (facing (.answer .fail) { amid .pcmd with ut := 22000#32 }))).map (fun t => (t.ut, t.err, t.seq)) =
      some (22000#32, .ioError, .idle) := by decide
theorem test_SEQ22 : (next? (step (facing .run (amid .pwait)))).map (·.seq) = some .pread := by decide
theorem test_SEQ8_third_byte :
    (next? (step (facing (.answer (.ok [0x5D, 0x23, 0xFF])) (amid .pread)))).map (fun t => (t.up, t.seq)) =
      some (23843#32, .comp) := by decide
theorem test_SEQ12_short :
    (next? (step (facing (.answer (.ok [0x5D, 0x23])) { amid .pread with up := 1#32 }))).map (fun t => (t.up, t.err)) =
      some (1#32, .ioError) := by decide
theorem test_CMD1 : State.reset.status = 0x000#32 := by decide
theorem test_CMD2_init :
    (next? (step (facing (.offer 0x01#8) State.reset))).map (fun t => (t.status, t.requests)) = some (0x088#32, []) := by decide
theorem test_CMD3_refresh_rejected :
    (next? (step (facing (.offer 0x02#8) State.reset))).map (·.status) = some 0xC00#32 := by decide
theorem test_CMD4_reserved :
    (next? (step (facing (.offer 0x7F#8) rest))).map (·.status) = some 0xF03#32 := by decide
theorem test_CMD6_refresh : (next? (step (facing (.offer 0x02#8) rest))).map (·.status) = some 0x393#32 := by decide
theorem test_CMD7_offer_waits :
    (next? (step (facing (.offer 0x01#8) (amid .twait)))).map (fun t => (t.seq, t.cmdValid, t.cmd)) =
      some (.twait, true, 0x01#8) := by decide
theorem test_CMD10_upd :
    (next? (step (amid .upd))).map (fun t => (t.temp, t.press, t.dataValid, t.devState, t.seq)) =
      some (150#32, 69964#32, true, .ready, .idle) := by decide
theorem test_CMD11_reset :
    (next? (step (facing .rst { amid .tread with busReq := some .rdT }))).map
      (fun t => (t.status, t.temp, t.press, t.ut, t.busReq)) = some (0#32, 0#32, 0#32, 0#32, none) := by decide
theorem test_CMD12_hazard :
    (next? (step { amid .comp with ut := 20285#32 })).map (fun t => (t.status, t.temp, t.press)) =
      some (0xB04#32, 150#32, 69964#32) := by decide
theorem test_comp_P1 :
    (next? (step { amid .comp with tn := 0#32, pn := 0#32 })).map (fun t => (t.tn, t.pn, t.seq)) =
      some (150#32, 69964#32, .upd) := by decide

/-- P1's host read (H5 .. H15 signed and unsigned). -/
theorem test_P1_views :
    ([rest.hostViews.h5, rest.hostViews.h6, rest.hostViews.h8, rest.hostViews.h13, rest.hostViews.h15].map (·.toInt)) =
      [408, -72, 32741, -32768, 2868] := by decide

/-- P7: STATUS at the phases of a refresh. -/
theorem test_P7_status :
    ([.twait, .tread, .pcmd, .pwait, .pread, .comp, .upd].map fun p => (amid p).status) =
      [0x39A#32, 0x3A2#32, 0x3AA#32, 0x3B2#32, 0x3BA#32, 0x3C2#32, 0x3CA#32] := by decide

/-- The five requests stand on the bus as R52 lists them, when their phase first runs. -/
theorem test_requests_emitted :
    ([.calrd, .tcmd, .tread, .pcmd, .pread].map fun p => (next? (step (amid p))).map (·.busReq.map packRequest)) =
      [some (some 0xF7AA16#24), some (some 0x77F42E#24), some (some 0xF7F602#24), some (some 0x77F434#24),
        some (some 0xF7F603#24)] := by decide

/-! Witnesses: for every statement with hypotheses, concrete states and operands that meet them all, clause by clause. -/

theorem witness_ResetStep : (facing .rst { amid .tread with busReq := some .rdT }).script = .rst :: [] := rfl

theorem witness_AnswersToNoTransaction :
    (facing (.lateAnswer (.ok [1, 2])) State.reset).script = .lateAnswer (.ok [1, 2]) :: [] ∧
      (facing (.answer (.ok [1, 2])) (amid .comp)).script = .answer (.ok [1, 2]) :: [] ∧
      (amid .comp).seq.request? = none := by decide

theorem witness_Tick :
    (facing .tick { amid .twait with waitcnt := 0xFFFF#16 }).script = .tick :: [] ∧
      (facing .tick State.reset).script = .tick :: [] := by decide

theorem witness_HostRead : (facing .read rest).script = .read :: [] ∧ (facing .read rest).calValid = true := by decide

theorem witness_StepRunsDecoded :
    decode (amid .upd).fetch = .ok .upd ∧ (amid .upd).script = [] ∧
      decode (facing .run (amid .upd)).fetch = .ok .upd ∧ (facing .run (amid .upd)).script = .run :: [] ∧
      (amid .tread).seq.request?.isSome = true ∧
      decode (State.answered (.ok [1, 2]) (amid .tread)).fetch = .ok .tread ∧
      rest.seq = .idle ∧ decode (.command 0x02#8) = .ok .refresh := by decide

theorem witness_FetchFollowsThePhase :
    (rest.seq = .idle ∧ { rest with cmdValid := true }.cmdValid = true ∧ rest.cmdValid = false) ∧
      ((amid .pread).seq.request? = some .rdP ∧ (amid .pread).busReq = none ∧ (amid .pread).busAns = none) ∧
      ((amid .comp).seq ≠ .idle ∧ (amid .comp).seq.request? = none) ∧
      { amid .tread with busReq := some .rdT }.busReq ≠ none ∧
      (State.answered .fail (amid .tread)).busAns ≠ none := by decide

theorem witness_InitAndRefresh :
    State.reset.seq = .idle ∧ State.reset.calValid = false ∧ rest.seq = .idle ∧ rest.calValid = true := by decide

theorem witness_ReservedCode :
    rest.seq = .idle ∧ ([0x00#8, 0x03#8, 0xFF#8] : List Byte).all (fun c => c ≠ 0x01#8 ∧ c ≠ 0x02#8) = true ∧
      (facing (.offer 0x03#8) rest).script = .offer 0x03#8 :: [] := by decide
theorem witness_ReservedCode_waiting :
    let s := { rest with cmdValid := true, cmd := 0xFF#8 }
    s.seq = .idle ∧ s.cmdValid = true ∧ s.cmd ≠ 0x01#8 ∧ s.cmd ≠ 0x02#8 ∧ s.script = [] ∧
      (facing .run s).script = .run :: [] := by decide

theorem witness_OfferToABusyBlock :
    (amid .twait).seq ≠ .idle ∧ (facing (.offer 0x01#8) (amid .twait)).script = .offer 0x01#8 :: [] := by decide
theorem witness_OfferToABusyBlock_third :
    (∀ code rest', (amid .twait).script ≠ .offer code :: rest') ∧ (∀ rest', (amid .twait).script ≠ .withdraw :: rest') ∧
      step (amid .twait) = .next { amid .twait with seq := .tread } :=
  ⟨by simp [amid, rest, State.reset], by simp [amid, rest, State.reset], rfl⟩

theorem witness_Rejection :
    (next? (step (facing (.offer 0x02#8) State.reset))).map (·.err) = some .rejected ∧
      (next? (step (facing (.offer 0x00#8) rest))).map (·.err) = some .rejected ∧ State.reset.err ≠ .rejected ∧
      rest.err ≠ .rejected := by decide

theorem witness_Calrd :
    (State.answered (.ok blockE) (amid .calrd)).busAns = some (.ok blockE) ∧ blockE.length = 22 := by decide

theorem witness_BusFailure :
    (Instr.calrd, BusRequest.rdCal) ∈ [(Instr.calrd, BusRequest.rdCal), (.tcmd, .wrTemp), (.tread, .rdT),
        (.pcmd, .wrPres), (.pread, .rdP)] ∧
      (State.answered .fail (amid .tcmd)).busAns = some .fail ∧
      (State.answered (.ok (blockE.take 21)) (amid .calrd)).busAns = some (.ok (blockE.take 21)) ∧
      (blockE.take 21).length < BusRequest.rdCal.answerLength ∧ [0x6C#8].length < BusRequest.rdT.answerLength ∧
      [0x5D#8, 0x23#8].length < BusRequest.rdP.answerLength := by decide

theorem witness_Unanswered :
    (amid .tread).busAns = none ∧ (amid .tread).busReq = none ∧
      { amid .tread with busReq := some .rdT }.busReq = some BusRequest.rdT := by decide

theorem witness_RequestRows :
    rest.busReq = none ∧ { amid .tread with busReq := some .rdT }.busReq ≠ none := by decide

theorem witness_CommandWrite : (State.answered (.ok []) (amid .pcmd)).busAns = some (.ok []) := by decide

theorem witness_Waits : (amid .twait).waitcnt = 0 ∧ { amid .pwait with waitcnt := 1#16 }.waitcnt ≠ 0 := by decide

theorem witness_Tread :
    (State.answered (.ok [0xFF, 0x00]) (amid .tread)).busAns = some (.ok [0xFF#8, 0x00#8]) := by decide

theorem witness_Pread :
    (State.answered (.ok [0x5D, 0x23, 0xFF]) (amid .pread)).busAns = some (.ok [0x5D#8, 0x23#8, 0xFF#8]) := by decide

theorem witness_Comp :
    rest.calValid = true ∧ Reference.result Reference.wrap rest.cal rest.ut.toInt rest.up.toInt = some (150, 69964) ∧
      Reference.result Reference.wrap rest.cal 20285 rest.up.toInt = none ∧ State.reset.calValid = false := by decide

theorem witness_CompIgnores :
    { rest with cal := { rest.cal with mb := 0#16 }, devState := .error }.cal = { rest.cal with mb := 0#16 } ∧
      rest.calValid = true := by decide

theorem witness_ShiftsAndDivisions :
    (0 ≤ 31 ∧ 31 ≤ 31) ∧ tdiv (-7#32) 4#32 = some (-1#32) ∧ udiv 7#32 4#32 = some 1#32 := by decide

theorem witness_PipelineVariables : compX2 (widen calE) (compX1 (widen calE) 27898#32) = .ok (-2343#32) := by decide

theorem witness_StepTen :
    (33457#32 : Word) ≠ 0 ∧ (0x7FFFFFFF#32 : Word).toNat < 0x80000000 ∧ 0x80000000 ≤ (0x80000000#32 : Word).toNat ∧
      (1#32 : Word) ≠ 0 := by decide

theorem witness_UnlistedOperations :
    (0 : Int) ≤ 0 ∧ (0 : Int) ≤ 65535 ∧ (65535 : Int) ≤ 65535 ∧
      (27898 - 23153 : Int) ∈ Reference.neverOverflowing calE 27898 23843 := by decide

/-- V1 "wraps: none". -/
theorem witness_NoSignedOverflow : Reference.NoSignedOverflow rest.cal rest.ut.toInt rest.up.toInt := by
  unfold Reference.NoSignedOverflow Reference.inS32; decide
theorem witness_CompExact :
    rest.calValid = true ∧ Reference.result id rest.cal rest.ut.toInt rest.up.toInt = some (150, 69964) := by decide

/-- `rest` between two commands, and the middle of a cycle, satisfy the invariant; so does a block with its read on the bus. -/
theorem witness_Inv_rest : rest.Inv := by constructor <;> decide
theorem witness_Inv_amid : (amid .pwait).Inv := by constructor <;> decide
theorem witness_Inv_outstanding : { amid .tread with busReq := some .rdT }.Inv := by
  constructor <;> decide
theorem witness_Inv_step : step (amid .pwait) = .next { amid .pwait with seq := .pread } := rfl

theorem witness_answerFits : (facing (.answer (.ok [1, 2])) { amid .tread with busReq := some .rdT }).answerFits := by
  intro a rest' r h hr
  cases h; cases hr; decide

theorem witness_Snapshot :
    (next? (step { amid .upd with tn := 1#32 })).map State.snapshot = some (true, 1#32, 69964#32) ∧
      (next? (step (facing .rst rest))).map State.snapshot = some (false, 0#32, 0#32) ∧
      (next? (step rest)).map State.snapshot = some rest.snapshot := by decide

theorem witness_Samples :
    step (amid .comp) = .next { amid .comp with seq := .upd } ∧ (∀ rest', (amid .comp).script ≠ .rst :: rest') :=
  ⟨rfl, by simp [amid, rest, State.reset]⟩

/-- A step of each kind that changes STATE, from a state with the invariant (R108). -/
theorem witness_StateTransitions :
    (next? (step (facing .rst rest))).map (·.devState) = some .uninitialized ∧
      (next? (step (facing (.answer (.ok blockE)) { rest with seq := .calrd }))).map (·.devState) = some .calibrationLoaded ∧
      (next? (step (facing (.answer (.ok [])) { rest with seq := .tcmd }))).map (·.devState) = some .measuring ∧
      (next? (step (amid .upd))).map (·.devState) = some .ready ∧
      (next? (step (facing (.answer .fail) (amid .pread)))).map (·.devState) = some .error ∧
      (next? (step { amid .comp with ut := 20285#32 })).map (·.devState) = some .error := by decide
theorem witness_StateTransitions_inv : (amid .upd).Inv ∧ { amid .comp with ut := 20285#32 }.Inv :=
  ⟨by constructor <;> decide, by constructor <;> decide⟩

theorem witness_IoError :
    (amid .pread).busAns = none ∧ (amid .pread).err ≠ .ioError ∧
      (next? (step (facing (.answer (.ok [0x5D, 0x23])) (amid .pread)))).map (·.err) = some .ioError := by decide

theorem witness_WaitLasts :
    let s := { amid .twait with waitcnt := 3#16, script := [.tick, .run, .tick] }
    s.seq = .twait ∧ (∀ e ∈ s.script.take 3, e ≠ .rst) ∧ ticksAmong 3 s.script < s.waitcnt.toNat := by decide

theorem witness_UnansweredHolds :
    let s := { amid .tread with script := [.run, .tick, .read, .offer 0x02#8] }
    s.seq.request? = some .rdT ∧ s.busAns = none ∧ s.busReq = none := by decide
theorem witness_UnansweredHolds_script :
    ∀ e ∈ ([.run, .tick, .read, .offer 0x02#8] : List Event).take 4, e ≠ .rst ∧ ∀ a, e ≠ .answer a := by
  simp

theorem witness_FailedLoad :
    let s := { rest with script := [.offer 0x01#8, .answer (.ok (blockE.take 21))] }
    s.seq = .idle ∧ s.busReq = none ∧ s.script = .offer 0x01#8 :: .answer (.ok (blockE.take 21)) :: [] ∧
      (blockE.take 21).length < 22 := by decide

/-- The environment's moves of one cycle after its command: N_WAIT = `n`, the samples' bytes as given. -/
def cycleEvents (n : Nat) (a0 a1 b0 b1 b2 : Byte) : List Event :=
  [.answer (.ok [])] ++ List.replicate n .tick ++ [.run, .answer (.ok [a0, a1]), .answer (.ok [])] ++
    List.replicate n .tick ++ [.run, .answer (.ok [b0, b1, b2]), .run, .run]

/-- A refresh of program P3's form, N_WAIT = 3, from `rest`: the samples of V1 have a result, those of V6 meet a zero
divisor. -/
theorem witness_RefreshRun :
    let s := { rest with script := .offer 0x02#8 :: cycleEvents 3 0x6C 0xFA 0x5D 0x23 0x00 }
    s.seq = .idle ∧ s.calValid = true ∧ s.busReq = none ∧ s.busAns = none ∧
      s.script = [.offer 0x02#8, .answer (.ok [])] ++ List.replicate s.params.nWait.toNat .tick ++
        [.run, .answer (.ok [0x6C#8, 0xFA#8]), .answer (.ok [])] ++ List.replicate s.params.nWait.toNat .tick ++
        [.run, .answer (.ok [0x5D#8, 0x23#8, 0x00#8]), .run, .run] ++ [] ∧
      Reference.result Reference.wrap s.cal ((0x6C#8 : Byte).toNat * 256 + (0xFA#8 : Byte).toNat)
        ((0x5D#8 : Byte).toNat * 256 + (0x23#8 : Byte).toNat) = some (150, 69964) := by decide
theorem witness_RefreshRun_hazard :
    let s := { rest with script := .offer 0x02#8 :: cycleEvents 3 0x4F 0x3D 0x5D 0x23 0x00 }
    s.script = [.offer 0x02#8, .answer (.ok [])] ++ List.replicate s.params.nWait.toNat .tick ++
        [.run, .answer (.ok [0x4F#8, 0x3D#8]), .answer (.ok [])] ++ List.replicate s.params.nWait.toNat .tick ++
        [.run, .answer (.ok [0x5D#8, 0x23#8, 0x00#8]), .run, .run] ++ [] ∧
      Reference.result Reference.wrap s.cal ((0x4F#8 : Byte).toNat * 256 + (0x3D#8 : Byte).toNat)
        ((0x5D#8 : Byte).toNat * 256 + (0x23#8 : Byte).toNat) = none := by decide

/-- Programs P1 (a result) and P4 (a zero divisor) from reset, N_WAIT = 1 here. -/
theorem witness_InitRun :
    let s := { State.reset with
      params := ⟨1#16, 1000, 0⟩,
      script := .offer 0x01#8 :: .answer (.ok blockE) :: cycleEvents 1 0x6C 0xFA 0x5D 0x23 0x00 }
    s.seq = .idle ∧ s.busReq = none ∧ s.busAns = none ∧ blockE.length = 22 ∧
      s.script = [.offer 0x01#8, .answer (.ok blockE), .answer (.ok [])] ++ List.replicate s.params.nWait.toNat .tick ++
        [.run, .answer (.ok [0x6C#8, 0xFA#8]), .answer (.ok [])] ++ List.replicate s.params.nWait.toNat .tick ++
        [.run, .answer (.ok [0x5D#8, 0x23#8, 0x00#8]), .run, .run] ++ [] ∧
      Reference.result Reference.wrap (calibrationOf blockE) ((0x6C#8 : Byte).toNat * 256 + (0xFA#8 : Byte).toNat)
        ((0x5D#8 : Byte).toNat * 256 + (0x23#8 : Byte).toNat) = some (150, 69964) := by decide
theorem witness_InitRun_hazard :
    let s := { State.reset with
      params := ⟨1#16, 1000, 0⟩,
      script := .offer 0x01#8 :: .answer (.ok blockE) :: cycleEvents 1 0x4F 0x3D 0x5D 0x23 0x00 }
    s.script = [.offer 0x01#8, .answer (.ok blockE), .answer (.ok [])] ++ List.replicate s.params.nWait.toNat .tick ++
        [.run, .answer (.ok [0x4F#8, 0x3D#8]), .answer (.ok [])] ++ List.replicate s.params.nWait.toNat .tick ++
        [.run, .answer (.ok [0x5D#8, 0x23#8, 0x00#8]), .run, .run] ++ [] ∧
      Reference.result Reference.wrap (calibrationOf blockE) ((0x4F#8 : Byte).toNat * 256 + (0x3D#8 : Byte).toNat)
        ((0x5D#8 : Byte).toNat * 256 + (0x23#8 : Byte).toNat) = none := by decide

end Sys2Proof.Tests
end

section
/-! The step as the run of a decoded instruction (R10, R18, R102), and a bus transaction without an answer (R10, R129). -/

namespace Sys2Proof.Machine

/-! The three ways a step is a turn of the sequencer (log 1). -/

theorem step_of_script_nil {s : State} (h : s.script = []) : step s = turn s := by
  simp [step, h]

theorem step_of_run {s : State} {rest : List Event} (h : s.script = .run :: rest) :
    step s = turn { s with script := rest } := by
  simp [step, h, perform]

theorem step_of_answer_at_busPhase {s : State} {a : BusAnswer} {rest : List Event} (h : s.script = .answer a :: rest)
    (hbus : s.seq.request?.isSome = true) : step s = turn (State.answered a { s with script := rest }) := by
  simp [step, h, perform, hbus]

theorem step_of_offer_at_idle {s : State} {code : Byte} {rest : List Event} (h : s.script = .offer code :: rest)
    (hidle : s.seq = .idle) : step s = turn (State.offered code { s with script := rest }) := by
  simp [step, h, perform, State.busy, hidle]

/-! A turn runs what its fetched code decodes to. -/

theorem turn_of_decode {s : State} {i : Instr} (h : decode s.fetch = .ok i) : turn s = exec i s := by
  simp [turn, h]

/-- The script is the environment's: the sequencer fetches without looking at it (R18, R102). -/
theorem State.fetch_with_script (s : State) (rest : List Event) : State.fetch { s with script := rest } = s.fetch := rfl

/-- What an idle CSB fetches right after an offer is the offered code (R102). -/
theorem State.fetch_offered_of_idle {s : State} (code : Byte) (h : s.seq = .idle) :
    (s.offered code).fetch = .command code := by
  simp [State.fetch, State.offered, h]

/-- Settles O8: each of the three ways is a turn of a state whose fetched code is the one that decodes. -/
theorem stepRunsTheDecodedInstruction : Obligations.StepRunsTheDecodedInstruction := by
  unfold Obligations.StepRunsTheDecodedInstruction
  refine ⟨fun s i hdec => ⟨fun hs => ?own, fun rest hs => ?run⟩, fun s i a rest hs hbus hdec => ?answer,
    fun s i code rest hs hidle hdec => ?offer⟩
  case own => rw [step_of_script_nil hs, turn_of_decode hdec]
  case run =>
    rw [step_of_run hs, turn_of_decode]
    rwa [State.fetch_with_script]
  case answer =>
    have hfetch : (State.answered a { s with script := rest }).fetch = (s.answered a).fetch :=
      State.fetch_with_script (s.answered a) rest
    rw [step_of_answer_at_busPhase hs hbus, turn_of_decode (hfetch ▸ hdec), State.answered]
  case offer =>
    have hfetch : (State.offered code { s with script := rest }).fetch = .command code :=
      State.fetch_offered_of_idle code hidle
    rw [step_of_offer_at_idle hs hidle, turn_of_decode (hfetch ▸ hdec), State.offered]

/-! A bus transaction without an answer. -/

/-- On a bus that is free or holds `r` already, emitting `r` leaves `r` standing there, recorded once (R38; log 2). -/
theorem State.emit_eq_of_free_or_own {r : BusRequest} {s : State} (h : s.busReq = none ∨ s.busReq = some r) :
    s.emit r = { s with busReq := some r, requests := s.requestsWith r } := by
  obtain hfree | hown := h
  · simp [State.emit_of_free hfree, State.requestsWith, hfree]
  · have hbusy : s.busReq ≠ none := by simp [hown]
    rw [State.emit_of_busy hbusy, State.requestsWith, if_neg hbusy, ← hown]

/-- Each of the five micro-operations with a bus transaction is the transaction for its own request (R60, R67, R69, R70,
R72). -/
theorem exec_microOp_eq_transact {i : Instr} {r : BusRequest}
    (h : (i, r) ∈ [(Instr.calrd, BusRequest.rdCal), (.tcmd, .wrTemp), (.tread, .rdT), (.pcmd, .wrPres), (.pread, .rdP)]) :
    ∃ onOk, ∀ s, exec i s = transact r onOk s := by
  simp only [List.mem_cons, List.not_mem_nil, or_false, Prod.mk.injEq] at h
  obtain ⟨rfl, rfl⟩ | ⟨rfl, rfl⟩ | ⟨rfl, rfl⟩ | ⟨rfl, rfl⟩ | ⟨rfl, rfl⟩ := h
  · exact ⟨loadCalibration, fun _ => rfl⟩
  · exact ⟨startTemperature, fun _ => rfl⟩
  · exact ⟨storeTemperature, fun _ => rfl⟩
  · exact ⟨startPressure, fun _ => rfl⟩
  · exact ⟨storePressure, fun _ => rfl⟩

/-- Settles O22: without an answer the transaction does nothing but emit, and emitting touches the bus port only. -/
theorem unansweredTransactionWritesNoRegister : Obligations.UnansweredTransactionWritesNoRegister := by
  unfold Obligations.UnansweredTransactionWritesNoRegister
  intro i r s hmem hans hbus
  obtain ⟨onOk, hexec⟩ := exec_microOp_eq_transact hmem
  rw [hexec, transact_of_free hans, State.emit_eq_of_free_or_own hbus]

end Sys2Proof.Machine
end

section
/-! What a step does to the registers of CSB: the writes of each completed micro-operation, then the one writer each register
group has (R11 to R16), and the order of SEQ (R18). -/

namespace Sys2Proof.Machine

/-! The writes of the five transactions once they are done (R60, R67, R69, R70, R72), for `simp`. -/

@[simp] theorem loadCalibration_eq (bytes : List Byte) (s : State) :
    loadCalibration bytes s =
      { s with cal := calibrationOf bytes, calValid := true, devState := .calibrationLoaded, seq := .tcmd } := rfl

@[simp] theorem startTemperature_eq (bytes : List Byte) (s : State) :
    startTemperature bytes s = { s with devState := .measuring, waitcnt := s.params.nWait, seq := .twait } := rfl

@[simp] theorem storeTemperature_eq (bytes : List Byte) (s : State) :
    storeTemperature bytes s = { s with ut := rawTemperature bytes, seq := .pcmd } := rfl

@[simp] theorem startPressure_eq (bytes : List Byte) (s : State) :
    startPressure bytes s = { s with waitcnt := s.params.nWait, seq := .pwait } := rfl

@[simp] theorem storePressure_eq (bytes : List Byte) (s : State) :
    storePressure bytes s = { s with up := rawPressure bytes, seq := .comp } := rfl

/-! A step as the registers see it. -/

/-- A tick touches WAITCNT only (R73), as one equation. -/
theorem State.ticked_eq (s : State) : s.ticked = { s with waitcnt := s.ticked.waitcnt } := by
  unfold State.ticked; split <;> rfl

/-- What a step is to the registers, when only the ports and the model's own fields are let vary: a reset, a move of the
environment, which leaves every register but WAITCNT, or a turn of the sequencer on the same registers. -/
inductive RegisterStep (s : State) : State → Prop
  | reset (rest : List Event) (t : State) : s.script = .rst :: rest → RegisterStep s t
  | environment (waitcnt : Half) (cmdValid : Bool) (cmd : Byte) (view : Option HostViews) (script : List Event)
      (draws : Nat) : RegisterStep s { s with waitcnt, cmdValid, cmd, view, script, draws }
  | turn (cmdValid : Bool) (cmd : Byte) (busAns : Option BusAnswer) (script : List Event) (t : State) :
      TurnTo { s with cmdValid, cmd, busAns, script } t → RegisterStep s t

theorem step_registers {s t : State} (h : step s = .next t) : RegisterStep s t := by
  cases step_next h
  case rst rest hscript => exact .reset rest _ hscript
  case tick => rw [State.ticked_eq]; exact .environment ..
  case read | withdraw | offerHeld | ignored => exact .environment ..
  case offerTaken hturn | answered hturn | run hturn => exact .turn _ _ _ _ t hturn

/-! CAL and CAL_VALID (R11, R12). -/

/-- A turn writes CAL and CAL_VALID only where CALRD is done. -/
theorem TurnTo.calibration_kept_or_loaded {s t : State} (h : TurnTo s t) :
    (t.cal = s.cal ∧ t.calValid = s.calValid) ∨
      (s.seq = .calrd ∧ t.seq = .tcmd ∧ t.calValid = true ∧ t.devState = .calibrationLoaded) := by
  cases h
  case calrd hseq _ _ => exact .inr ⟨hseq, rfl, rfl, rfl⟩
  all_goals exact .inl ⟨by simp, by simp⟩

/-- Settles O44: of a step's three kinds only a reset and a turn write CAL, and a turn only where CALRD is done. -/
theorem calibrationChangesOnlyByCalrdOrReset : Obligations.CalibrationChangesOnlyByCalrdOrReset := by
  unfold Obligations.CalibrationChangesOnlyByCalrdOrReset
  intro s t hstep
  cases step_registers hstep
  case reset rest hscript => exact .inr (.inl ⟨rest, hscript⟩)
  case environment => exact .inl ⟨rfl, rfl⟩
  case turn hturn => exact hturn.calibration_kept_or_loaded.imp_right .inr

/-! UT, UP, TN and PN (R13, R14, R16). -/

/-- A turn writes UT only where TREAD is done. -/
theorem TurnTo.ut_kept_or_read {s t : State} (h : TurnTo s t) : t.ut = s.ut ∨ (s.seq = .tread ∧ t.seq = .pcmd) := by
  cases h
  case tread hseq _ _ => exact .inr ⟨hseq, rfl⟩
  all_goals exact .inl (by simp)

/-- A turn writes UP only where PREAD is done. -/
theorem TurnTo.up_kept_or_read {s t : State} (h : TurnTo s t) : t.up = s.up ∨ (s.seq = .pread ∧ t.seq = .comp) := by
  cases h
  case pread hseq _ _ => exact .inr ⟨hseq, rfl⟩
  all_goals exact .inl (by simp)

/-- A turn writes TN and PN only where COMP has its results. -/
theorem TurnTo.staging_kept_or_computed {s t : State} (h : TurnTo s t) :
    (t.tn = s.tn ∧ t.pn = s.pn) ∨ (s.seq = .comp ∧ t.seq = .upd) := by
  cases h
  case comp hseq _ _ => exact .inr ⟨hseq, rfl⟩
  all_goals exact .inl ⟨by simp, by simp⟩

/-- Settles O45: no move of the environment writes the four registers, and each has its one writer among the turns. -/
theorem samplesAndStagingHaveOneWriterEach : Obligations.SamplesAndStagingHaveOneWriterEach := by
  unfold Obligations.SamplesAndStagingHaveOneWriterEach
  intro s t hstep hnoReset
  cases step_registers hstep
  case reset rest hscript => exact absurd hscript (hnoReset rest)
  case environment => simp
  case turn hturn =>
    exact ⟨hturn.ut_kept_or_read.resolve_left, hturn.up_kept_or_read.resolve_left,
      fun hne => hturn.staging_kept_or_computed.resolve_left (not_and_or.2 hne)⟩

/-! SEQ (R18). -/

/-- A turn leaves SEQ (at rest, at a rejection, while it waits), moves it on, aborts (R114), or accepts a command (R103,
R104). -/
theorem TurnTo.seq_cases {s t : State} (h : TurnTo s t) :
    t.seq = s.seq ∨ t.seq = s.seq.successor ∨
      (t.seq = .idle ∧ t.devState = .error ∧ (t.err = .ioError ∨ t.err = .arithmeticHazard)) ∨
      (s.seq = .idle ∧ t.err = .none ∧ (t.seq = .calrd ∨ t.seq = .tcmd ∧ s.calValid = true)) := by
  cases h
  case rest | rejectRefresh | rejectReserved | waiting | waitOn => exact .inl (by simp)
  case waitOver => exact .inr (.inl rfl)
  case calrd hseq _ _ | tcmd hseq _ | tread hseq _ _ | pcmd hseq _ | pread hseq _ _ | comp hseq _ _ | upd hseq =>
    exact .inr (.inl (by simp [hseq, Phase.successor]))
  case failed => exact .inr (.inr (.inl ⟨rfl, rfl, .inl rfl⟩))
  case hazard => exact .inr (.inr (.inl ⟨rfl, rfl, .inr rfl⟩))
  case acceptInit hidle _ _ => exact .inr (.inr (.inr ⟨hidle, rfl, .inl rfl⟩))
  case acceptRefresh hidle _ _ hcal => exact .inr (.inr (.inr ⟨hidle, rfl, .inr ⟨rfl, hcal⟩⟩))

/-- Settles O46: the environment leaves SEQ but for a reset, and a turn moves it in one of the ways of `TurnTo.seq_cases`. -/
theorem seqFollowsTheFixedOrder : Obligations.SeqFollowsTheFixedOrder := by
  unfold Obligations.SeqFollowsTheFixedOrder
  intro s t hstep
  cases step_registers hstep
  case reset rest hscript => exact .inr (.inr (.inr (.inr ⟨rest, hscript⟩)))
  case environment => exact .inl rfl
  case turn hturn => exact hturn.seq_cases.imp_right (.imp_right (.imp_right .inl))

end Sys2Proof.Machine
end

section
/-! The reset state, the STATUS word, what the sequencer fetches, and the two rows that change nothing or fault. -/

namespace Sys2Proof.Machine

/-! Reset (R27). -/

/-- Settles O1: each register is read off `State.reset`; BUSY is computed from SEQ. -/
theorem resetHoldsSpecifiedValues : Obligations.ResetHoldsSpecifiedValues :=
  ⟨rfl, rfl, rfl, rfl, rfl, rfl, rfl, rfl, rfl, rfl, rfl⟩

/-- Settles O40: at reset SEQ is IDLE, nothing is on the bus, no coefficients and no reading are held. -/
theorem invariantHoldsAtReset : Obligations.InvariantHoldsAtReset where
  wait_zero _ _ := rfl
  cal_loaded hbusy _ := absurd rfl hbusy
  ut_range := by decide
  up_range := by decide
  bus_phase _ hreq := nomatch hreq
  no_answer := rfl
  err_clear hbusy := absurd rfl hbusy
  state_agrees := rfl
  store_empty _ := ⟨rfl, rfl⟩
  data_cal hdata := nomatch hdata
  ready_data hready := nomatch hready
  uncalibrated _ := .inl rfl
  unloaded _ := rfl

/-! STATUS (R24). -/

/-- BUSY is 1 exactly when the code of SEQ is not IDLE's (R20, R48). -/
theorem State.busy_iff_code_ne_zero (s : State) : s.busy = true ↔ s.seq.code ≠ 0#4 := by
  unfold State.busy
  cases s.seq <;> decide

/-- Settles O6: STATUS is a concatenation, so a field is what is left once the fields below it are skipped. -/
theorem statusWordPacksItsFields : Obligations.StatusWordPacksItsFields := by
  unfold Obligations.StatusWordPacksItsFields
  refine ⟨fun s => ⟨?state, ?seq, ?busy, ?calValid, ?dataValid, ?err, ?reserved⟩, by decide⟩
  all_goals rw [State.status]
  case state => exact BitVec.extractLsb'_append_eq_right
  case seq =>
    rw [BitVec.extractLsb'_append_eq_of_le (by decide)]
    exact BitVec.extractLsb'_append_eq_right
  case err =>
    iterate 5 rw [BitVec.extractLsb'_append_eq_of_le (by decide)]
    exact BitVec.extractLsb'_append_eq_right
  case reserved =>
    iterate 5 rw [BitVec.extractLsb'_append_eq_of_le (by decide)]
    exact BitVec.extractLsb'_append_eq_left
  case busy =>
    rw [← State.busy_iff_code_ne_zero]
    simp only [BitVec.getLsbD_append]
    simp
  case calValid | dataValid =>
    simp only [BitVec.getLsbD_append]
    simp

/-! Fetch (R18, R42, R52, R102). -/

theorem State.fetch_of_waiting_command {s : State} (hidle : s.seq = .idle) (hcmd : s.cmdValid = true) :
    s.fetch = .command s.cmd := by
  simp [State.fetch, hidle, hcmd]

theorem State.fetch_of_idle_no_command {s : State} (hidle : s.seq = .idle) (hcmd : s.cmdValid = false) :
    s.fetch = .phase 0#4 := by
  simp [State.fetch, hidle, hcmd, Phase.request?, Phase.code]

/-- A phase with a bus transaction is not IDLE (R30). -/
theorem Phase.ne_idle_of_request {p : Phase} {r : BusRequest} (h : p.request? = some r) : p ≠ .idle := by
  rintro rfl
  exact nomatch h

theorem State.fetch_of_free_bus {s : State} {r : BusRequest} (hr : s.seq.request? = some r) (hreq : s.busReq = none)
    (hans : s.busAns = none) : s.fetch = .request (packRequest r) := by
  simp [State.fetch, Phase.ne_idle_of_request hr, hr, hreq, hans]

/-- Settles O9: at a phase other than IDLE the fetched code is the request's only on a free bus, by `State.fetch_busPhase`. -/
theorem fetchFollowsThePhase : Obligations.FetchFollowsThePhase := by
  unfold Obligations.FetchFollowsThePhase
  refine fun s => ⟨State.fetch_of_waiting_command, State.fetch_of_idle_no_command, fun _ => State.fetch_of_free_bus,
    fun hne hphase => ?_⟩
  rcases hr : s.seq.request? with - | r
  · exact State.fetch_innerPhase hne hr
  · obtain ⟨hreq, hans, -⟩ | hfetch := State.fetch_busPhase hr
    · simp [hr, hreq, hans] at hphase
    · exact hfetch

/-! IDLE, and COMP without coefficients. -/

/-- Settles O28: IDLE's meaning is the state it starts from. -/
theorem idleChangesNothing : Obligations.IdleChangesNothing :=
  fun _ => rfl

/-- Settles O30: COMP tests CAL_VALID before it reads CAL. -/
theorem compFaultsWithoutCoefficients : Obligations.CompFaultsWithoutCoefficients := by
  unfold Obligations.CompFaultsWithoutCoefficients
  intro s hcal
  simp [exec, execComp, hcal]

end Sys2Proof.Machine
end

section
/-! Every step from a legal state goes on (R28, R32, R83): the pipeline divides only where division is defined, COMP runs only
with coefficients, and the bus answers no more than was asked. -/

namespace Sys2Proof.Machine

/-! The pipeline's divisions (R83, R97). -/

/-- A tested quotient is undefined only where the division is. -/
theorem definedQuotient_of_ne_none {o : Option Word} (h : o ≠ none) : ∃ q, definedQuotient o = .ok q := by
  obtain ⟨q, rfl⟩ := Option.ne_none_iff_exists'.1 h
  exact ⟨q, rfl⟩

/-- `tdiv` is defined at a divisor that is not zero, but for `-2^31 / -1` (R83). -/
theorem tdiv_ne_none {a b : Word} (hzero : b.toInt ≠ 0) (hfits : a.toInt ≠ -2147483648 ∨ b.toInt ≠ -1) :
    tdiv a b ≠ none := by
  rw [tdiv, if_neg hzero, if_neg (not_and_or.2 hfits)]
  exact Option.some_ne_none _

/-- `udiv` is defined at a divisor that is not zero (R83). -/
theorem udiv_ne_none {a b : Word} (h : b ≠ 0#32) : udiv a b ≠ none := by
  have hzero : b.toNat ≠ 0 := fun h0 => h (BitVec.eq_of_toNat_eq h0)
  rw [udiv, if_neg hzero]
  exact Option.some_ne_none _

/-- `MC << 11` keeps its number (R82, D23): a 16-bit coefficient times 2048 fits. -/
theorem shlS_sext32_toInt (c : Half) : (shlS (sext32 c) 11).toInt = c.toInt * 2048 := by
  have := c.isLt
  rw [shlS, sext32_toInt, toS32_toInt_of_fits]
  · norm_num
  · rw [half_toInt]
    split <;> omega

/-- Step 2 divides `MC << 11`, which is not `-2^31`, by a divisor tested for zero (R86, R97). -/
theorem compX2_ne_undefined (c : Calib) (x1 : Word) : compX2 (widen c) x1 ≠ .error .undefined := by
  have hdividend : (shlS (widen c).mc 11).toInt ≠ -2147483648 := by
    have := c.mc.isLt
    rw [widen, shlS_sext32_toInt, half_toInt]
    split <;> omega
  rw [compX2]
  split_ifs with hd
  · simp
  · have hzero : (compDivisor (widen c) x1).toInt ≠ 0 := fun h0 => hd (BitVec.eq_of_toInt_eq h0)
    obtain ⟨q, hq⟩ := definedQuotient_of_ne_none (tdiv_ne_none hzero (.inl hdividend))
    simp [hq]

/-- Step 6 divides by 4 (R90). -/
theorem compB3_ne_undefined (w : Widened) (x3 : Word) : compB3 w x3 ≠ .error .undefined := by
  obtain ⟨q, hq⟩ := definedQuotient_of_ne_none
    (tdiv_ne_none (a := addS (addS (mulS w.ac1 4#32) x3) 2#32) (b := 4#32) (by decide) (.inr (by decide)))
  simp [compB3, hq]

/-- Step 10 divides by B4 only where B4 is not zero (R94, R97). -/
theorem compP_ne_undefined (b4 b7 : Word) : compP b4 b7 ≠ .error .undefined := by
  rw [compP]
  split_ifs with hzero hsmall
  · simp
  · obtain ⟨q, hq⟩ := definedQuotient_of_ne_none (udiv_ne_none (a := mulU b7 2#32) hzero)
    simp [hq, Except.map]
  · obtain ⟨q, hq⟩ := definedQuotient_of_ne_none (udiv_ne_none (a := b7) hzero)
    simp [hq, Except.map]

/-- A pipeline is undefined only where one of its steps is. -/
theorem bind_ne_undefined {α β : Type} {x : Except CompStop α} {f : α → Except CompStop β}
    (hx : x ≠ .error .undefined) (hf : ∀ a, f a ≠ .error .undefined) : (x >>= f) ≠ .error .undefined := by
  cases x with
  | error e => exact fun h => hx (congrArg _ (Except.error.inj h))
  | ok a => exact hf a

theorem pressureOf_ne_undefined (w : Widened) (up b5 : Word) : pressureOf w up b5 ≠ .error .undefined :=
  bind_ne_undefined (compB3_ne_undefined _ _) fun _ => bind_ne_undefined (compP_ne_undefined _ _) fun _ => nofun

/-- The guards of R97 keep the pipeline inside the domain of its divisions, for any coefficients and samples (R83). -/
theorem compensate_ne_undefined (c : Calib) (ut up : Word) : compensate c ut up ≠ .error .undefined :=
  bind_ne_undefined (compX2_ne_undefined _ _) fun _ => bind_ne_undefined (pressureOf_ne_undefined _ _ _) fun _ => nofun

/-! What goes on. -/

/-- COMP goes on when the coefficients are loaded (R28, R97). -/
theorem execComp_goes_on {s : State} (h : s.calValid = true) : ∃ t, execComp s = .next t := by
  rw [execComp, if_pos h]
  rcases hc : compensate s.cal s.ut s.up with (- | -) | ⟨v, p⟩
  · exact ⟨_, rfl⟩
  · exact absurd hc (compensate_ne_undefined _ _ _)
  · exact ⟨_, rfl⟩

/-- A transaction goes on unless its answer is longer than was asked (R32, D26). -/
theorem transact_goes_on {r : BusRequest} {onOk : List Byte → State → State} {s : State}
    (h : ∀ a, s.busAns = some a → a.fits r = true) : ∃ t, transact r onOk s = .next t := by
  obtain ⟨-, he⟩ | ⟨-, he⟩ | ⟨_, -, -, he⟩ | ⟨bytes, ha, hlong, -⟩ := transact_cases r onOk s
  · exact ⟨_, he⟩
  · exact ⟨_, he⟩
  · exact ⟨_, he⟩
  · have hfits : bytes.length ≤ r.answerLength := of_decide_eq_true (h _ ha)
    exact absurd hfits hlong.not_ge

/-- The sequencer's turn goes on when COMP finds coefficients and the answer on the bus, if any, fits the phase's request. -/
theorem turn_goes_on {s : State} (hcal : s.seq = .comp → s.calValid = true)
    (hans : ∀ a r, s.busAns = some a → s.seq.request? = some r → a.fits r = true) : ∃ t, turn s = .next t := by
  rcases hr : s.seq.request? with - | r
  · cases hp : s.seq <;> rw [hp] at hr
    case idle =>
      rw [turn_idle hp]
      split_ifs <;> exact ⟨_, rfl⟩
    case twait => exact ⟨_, turn_twait hp⟩
    case pwait => exact ⟨_, turn_pwait hp⟩
    case comp => exact turn_comp hp ▸ execComp_goes_on (hcal hp)
    case upd => exact ⟨_, turn_upd hp⟩
    case calrd | tcmd | tread | pcmd | pread => exact nomatch hr
  · obtain ⟨onOk, hturn⟩ := turn_busPhase hr
    exact hturn ▸ transact_goes_on fun a ha => hans a r ha hr

/-- Settles O42: the invariant gives COMP its coefficients and keeps old answers off the bus, and R32 bounds the new one. -/
theorem noStopFromALegalState : Obligations.NoStopFromALegalState := by
  unfold Obligations.NoStopFromALegalState
  intro s hinv hfits
  have hcal : s.seq = .comp → s.calValid = true := fun hp => hinv.cal_loaded (by simp [hp]) (by simp [hp])
  have hnone : ∀ a r, s.busAns = some a → s.seq.request? = some r → a.fits r = true := by simp [hinv.no_answer]
  rcases hs : s.script with - | ⟨e, rest⟩
  · exact step_of_script_nil hs ▸ turn_goes_on hcal hnone
  cases e
  case rst | tick | read | withdraw | lateAnswer => exact ⟨_, by rw [step, hs]; rfl⟩
  case run => exact step_of_run hs ▸ turn_goes_on hcal hnone
  case offer code =>
    by_cases hidle : s.seq = .idle
    · exact step_of_offer_at_idle hs hidle ▸ turn_goes_on hcal hnone
    · exact ⟨State.offered code { s with script := rest }, by simp [step, hs, perform, State.busy, hidle]⟩
  case answer a =>
    by_cases hbus : s.seq.request?.isSome = true
    · refine step_of_answer_at_busPhase hs hbus ▸ turn_goes_on hcal fun b r hb hr => ?_
      obtain rfl : a = b := Option.some.inj hb
      exact hfits a rest r hs hr
    · exact ⟨{ s with script := rest }, by simp [step, hs, perform, hbus]⟩

end Sys2Proof.Machine
end

section
/-! The record of requests (R39, R52, R76; log 13): only a bus phase's transaction puts a request on the bus. -/

namespace Sys2Proof.Machine

/-- A transaction, waiting or over, has put its request on the bus once, unless the bus was already taken (R38). -/
theorem requests_kept_or_emitted_of_transaction {s : State} {r : BusRequest} {requests : List BusRequest}
    (hr : s.seq.request? = some r) (h : requests = if s.busReq = none then r :: s.requests else s.requests) :
    requests = s.requests ∨ ∃ r, s.seq.request? = some r ∧ s.busReq = none ∧ requests = r :: s.requests := by
  split_ifs at h with hfree
  · exact .inr ⟨r, hr, hfree, h⟩
  · exact .inl h

/-- A turn emits nothing, or its phase's request on a free bus. -/
theorem TurnTo.requests_kept_or_emitted {s t : State} (h : TurnTo s t) :
    t.requests = s.requests ∨ ∃ r, s.seq.request? = some r ∧ s.busReq = none ∧ t.requests = r :: s.requests := by
  cases h
  case waiting hr _ | failed hr _ => exact requests_kept_or_emitted_of_transaction hr (by simp)
  case calrd hseq _ _ | tcmd hseq _ | tread hseq _ _ | pcmd hseq _ | pread hseq _ _ =>
    exact requests_kept_or_emitted_of_transaction (by rw [hseq]; rfl) (by simp)
  all_goals exact .inl (by simp)

/-- Settles O48: the environment emits nothing, and a turn what `TurnTo.requests_kept_or_emitted` says. -/
theorem requestsComeFromTheirPhaseOnly : Obligations.RequestsComeFromTheirPhaseOnly := by
  unfold Obligations.RequestsComeFromTheirPhaseOnly
  intro s t hstep
  cases step_next hstep
  case offerTaken hturn | answered hturn | run hturn => exact hturn.requests_kept_or_emitted
  case rst | read | withdraw | offerHeld | ignored => exact .inl rfl
  case tick => exact .inl (State.ticked_requests _)

end Sys2Proof.Machine
end

section
/-! The encoding (R45 to R56): request descriptors, decode and encode over the three formats, the codes the sequencer fetches,
and the five request rows. -/

namespace Sys2Proof

/-! The request descriptor (R51). -/

theorem Direction.ofBit_bit (d : Direction) : Direction.ofBit d.bit = d := by
  cases d <;> rfl

theorem Direction.bit_ofBit (b : BitVec 1) : (Direction.ofBit b).bit = b := by
  revert b
  decide

theorem Direction.bit_getLsbD_zero (d : Direction) : d.bit.getLsbD 0 = true ↔ d = .read := by
  cases d <;> decide

/-! A descriptor is a concatenation, so a field is what is left once the fields below it are skipped. -/

theorem packRequest_arg (r : BusRequest) : (packRequest r).extractLsb' 0 8 = r.arg :=
  BitVec.extractLsb'_append_eq_right

theorem packRequest_reg (r : BusRequest) : (packRequest r).extractLsb' 8 8 = r.reg := by
  rw [packRequest, BitVec.extractLsb'_append_eq_of_le (by decide)]
  exact BitVec.extractLsb'_append_eq_right

theorem packRequest_dev (r : BusRequest) : (packRequest r).extractLsb' 16 7 = r.dev := by
  rw [packRequest]
  iterate 2 rw [BitVec.extractLsb'_append_eq_of_le (by decide)]
  exact BitVec.extractLsb'_append_eq_right

theorem packRequest_rw (r : BusRequest) : (packRequest r).extractLsb' 23 1 = r.rw.bit := by
  rw [packRequest]
  iterate 2 rw [BitVec.extractLsb'_append_eq_of_le (by decide)]
  exact BitVec.extractLsb'_append_eq_left

/-- Bit 23 is the only bit of the direction field. -/
theorem packRequest_getLsbD_23 (r : BusRequest) : (packRequest r).getLsbD 23 = r.rw.bit.getLsbD 0 := by
  rw [← packRequest_rw, BitVec.getLsbD_extractLsb']
  simp

theorem unpackRequest_packRequest (r : BusRequest) : unpackRequest (packRequest r) = r := by
  rw [unpackRequest, packRequest_rw, packRequest_dev, packRequest_reg, packRequest_arg, Direction.ofBit_bit]

/-- Neighbouring fields join to one field, and the four of them are the whole descriptor. -/
theorem packRequest_unpackRequest (d : BitVec 24) : packRequest (unpackRequest d) = d := by
  simp only [packRequest, unpackRequest, Direction.bit_ofBit]
  iterate 3 rw [BitVec.extractLsb'_append_extractLsb'_eq_extractLsb' (by decide)]
  exact BitVec.extractLsb'_eq_self

/-- Settles O13: the fields are read back one by one, so packing and unpacking undo each other. -/
theorem requestPackingLosesNothing : Obligations.RequestPackingLosesNothing := by
  unfold Obligations.RequestPackingLosesNothing
  refine ⟨fun r => ⟨?_, packRequest_dev r, packRequest_reg r, packRequest_arg r, unpackRequest_packRequest r⟩,
    packRequest_unpackRequest⟩
  rw [packRequest_getLsbD_23, Direction.bit_getLsbD_zero]

/-! Decode and encode (R45, R47, R48, R52, R55, R56). -/

/-- Every row's encoding decodes to the row. -/
theorem decode_encode (i : Instr) : decode (encode i) = .ok i := by
  cases i
  case init => exact Laws.RoundTrip.init.2
  case refresh => exact Laws.RoundTrip.refresh.2
  case idle => exact Laws.RoundTrip.idle.2
  case calrd => exact Laws.RoundTrip.calrd.2
  case tcmd => exact Laws.RoundTrip.tcmd.2
  case twait => exact Laws.RoundTrip.twait.2
  case tread => exact Laws.RoundTrip.tread.2
  case pcmd => exact Laws.RoundTrip.pcmd.2
  case pwait => exact Laws.RoundTrip.pwait.2
  case pread => exact Laws.RoundTrip.pread.2
  case comp => exact Laws.RoundTrip.comp.2
  case upd => exact Laws.RoundTrip.upd.2
  case rdCal => exact Laws.RoundTrip.rdCal.2
  case wrTemp => exact Laws.RoundTrip.wrTemp.2
  case rdT => exact Laws.RoundTrip.rdT.2
  case wrPres => exact Laws.RoundTrip.wrPres.2
  case rdP => exact Laws.RoundTrip.rdP.2

theorem decode_of_eq_encode {c : Code} {i : Instr} (h : c = encode i) : decode c = .ok i :=
  h ▸ decode_encode i

/-- Format H: an instruction comes from one of the two assigned bytes. -/
theorem eq_encode_of_decodeCommand {code : Byte} {i : Instr} (h : decodeCommand code = .ok i) :
    .command code = encode i := by
  unfold decodeCommand at h
  split_ifs at h with hinit hrefresh
  · obtain rfl := Except.ok.inj h
    rw [hinit, encode]
  · obtain rfl := Except.ok.inj h
    rw [hrefresh, encode]

/-- Format U: an instruction comes from one of the ten phase codes. -/
theorem eq_encode_of_decodePhase {code : BitVec 4} {i : Instr} (h : decodePhase code = .ok i) :
    .phase code = encode i := by
  unfold decodePhase at h
  split at h
  case h_11 => exact nomatch h
  all_goals
    next hcode =>
      obtain rfl := Except.ok.inj h
      exact congrArg Code.phase (BitVec.eq_of_toNat_eq hcode)

/-- Format B: an instruction comes from one of the five tuples, and a descriptor is its tuple packed. -/
theorem eq_encode_of_decodeRequest {d : BitVec 24} {i : Instr} (h : decodeRequest d = .ok i) :
    .request d = encode i := by
  rw [← packRequest_unpackRequest d]
  simp only [decodeRequest] at h
  split_ifs at h with hr hr hr hr hr
  all_goals
    obtain rfl := Except.ok.inj h
    rw [hr, encode]

/-- Settles O12: a code that decodes is the encoding, format by format; an encoding decodes, row by row. -/
theorem codeDecodesIffItIsTheEncoding : Obligations.CodeDecodesIffItIsTheEncoding := by
  unfold Obligations.CodeDecodesIffItIsTheEncoding
  refine fun c i => ⟨fun h => ?_, decode_of_eq_encode⟩
  cases c with
  | command code => exact eq_encode_of_decodeCommand h
  | phase code => exact eq_encode_of_decodePhase h
  | request d => exact eq_encode_of_decodeRequest h

/-- Settles O11: the assigned words are the rows' encodings; the other four decode to none. -/
theorem tabledWordsDecode : Obligations.TabledWordsDecode := by
  unfold Obligations.TabledWordsDecode
  iterate 17 refine ⟨decode_of_eq_encode rfl, ?_⟩
  decide

end Sys2Proof

namespace Sys2Proof.Machine

/-! The codes the sequencer fetches (R55). -/

/-- The code of every phase is a micro-operation's (R48). -/
theorem Phase.code_decodes (p : Phase) : ∃ i, decode (.phase p.code) = .ok i := by
  cases p <;> exact ⟨_, rfl⟩

/-- The request of a bus phase is the tuple of a format B row (R52). -/
theorem Phase.request_decodes {p : Phase} {r : BusRequest} (h : p.request? = some r) :
    ∃ i, decode (.request (packRequest r)) = .ok i := by
  cases p <;> cases h
  case calrd => exact ⟨_, decode_rdCal⟩
  case tcmd => exact ⟨_, decode_wrTemp⟩
  case tread => exact ⟨_, decode_rdT⟩
  case pcmd => exact ⟨_, decode_wrPres⟩
  case pread => exact ⟨_, decode_rdP⟩

/-- A command code decodes unless it is reserved (R47, R55). -/
theorem decode_command_ok_or_reserved (code : Byte) :
    (∃ i, decode (.command code) = .ok i) ∨ (code ≠ 0x01#8 ∧ code ≠ 0x02#8) := by
  by_cases hinit : code = 0x01#8
  · exact .inl ⟨.init, decode_of_eq_encode (congrArg Code.command hinit)⟩
  · by_cases hrefresh : code = 0x02#8
    · exact .inl ⟨.refresh, decode_of_eq_encode (congrArg Code.command hrefresh)⟩
    · exact .inr ⟨hinit, hrefresh⟩

/-- What is fetched without an offer to an idle CSB comes from SEQ, and decodes. -/
theorem State.fetch_decodes_of_no_offer {s : State} (h : ¬(s.seq = .idle ∧ s.cmdValid = true)) :
    ∃ i, decode s.fetch = .ok i := by
  rcases hr : s.seq.request? with - | r
  · have hfetch : s.fetch = .phase s.seq.code := by rw [State.fetch, if_neg h, hr]
    exact hfetch ▸ s.seq.code_decodes
  · obtain ⟨-, -, hfetch⟩ | hfetch := State.fetch_busPhase hr
    · exact hfetch ▸ Phase.request_decodes hr
    · exact hfetch ▸ s.seq.code_decodes

/-- Settles O10: an idle CSB with an offer fetches the offered byte; all else comes from SEQ and decodes. -/
theorem onlyReservedCommandsFailToDecode : Obligations.OnlyReservedCommandsFailToDecode := by
  unfold Obligations.OnlyReservedCommandsFailToDecode
  intro s
  by_cases hoffer : s.seq = .idle ∧ s.cmdValid = true
  · obtain ⟨hidle, hcmd⟩ := hoffer
    rw [State.fetch_of_waiting_command hidle hcmd]
    exact (decode_command_ok_or_reserved s.cmd).imp_right fun hreserved => ⟨hidle, hcmd, hreserved⟩
  · exact .inl (State.fetch_decodes_of_no_offer hoffer)

/-! The codes of the status fields (R48, R49, R50). -/

theorem Phase.code_toNat_le (p : Phase) : p.code.toNat ≤ 9 := by
  cases p <;> decide

theorem DevState.code_toNat_le (d : DevState) : d.code.toNat ≤ 4 := by
  cases d <;> decide

/-- Settles O7: the three tables are read off, and each of the two bounds is checked value by value. -/
theorem statusCodesAreTheTabled : Obligations.StatusCodesAreTheTabled :=
  ⟨rfl, rfl, rfl, Phase.code_toNat_le, DevState.code_toNat_le⟩

/-! The request rows (R52). -/

/-- Each format B row emits its own request and does nothing else. -/
theorem exec_requestRow_eq_emit {i : Instr} (h : i ∈ [Instr.rdCal, .wrTemp, .rdT, .wrPres, .rdP]) :
    ∃ r, ∀ s, exec i s = .next (s.emit r) := by
  simp only [List.mem_cons, List.not_mem_nil, or_false] at h
  obtain rfl | rfl | rfl | rfl | rfl := h
  · exact ⟨.rdCal, fun _ => rfl⟩
  · exact ⟨.wrTemp, fun _ => rfl⟩
  · exact ⟨.rdT, fun _ => rfl⟩
  · exact ⟨.wrPres, fun _ => rfl⟩
  · exact ⟨.rdP, fun _ => rfl⟩

/-- Settles O23: a format B row is an emission, which a free bus takes and a busy one does not. -/
theorem requestRowsEmitTheirTuples : Obligations.RequestRowsEmitTheirTuples := by
  unfold Obligations.RequestRowsEmitTheirTuples
  refine ⟨fun s hfree => ?free, fun s i hbusy hrow => ?busy⟩
  case free =>
    refine ⟨?_, ?_, ?_, ?_, ?_⟩
    all_goals exact congrArg Host.Outcome.next (State.emit_of_free hfree)
  case busy =>
    obtain ⟨r, hexec⟩ := exec_requestRow_eq_emit hrow
    rw [hexec, State.emit_of_busy hbusy]

end Sys2Proof.Machine
end

section
/-! The calibration load (R60 to R65): the decoding of a block, CALRD with a whole block, and an INIT whose block read fails. -/

namespace Sys2Proof.Machine

/-! The coefficients of a block (R61, R62). -/

/-- `h_i` is the pair's number, the even byte the most significant (R61). -/
theorem coefficientAt_toNat (bytes : List Byte) (i : Nat) : (coefficientAt bytes i).toNat = pairAt bytes i := by
  rw [coefficientAt, be16_toNat, byteAt, byteAt, pairAt, Nat.mul_comm]

/-- Read signed, `h_i` is the pair's number taken into the signed 16-bit range (R61). -/
theorem coefficientAt_toInt (bytes : List Byte) (i : Nat) :
    (coefficientAt bytes i).toInt = signedHalf (pairAt bytes i) := by
  rw [half_toInt, coefficientAt_toNat, signedHalf]

/-- Settles O19: coefficient `i` is `h_i`, read unsigned for AC4, AC5, AC6 and signed for the others. -/
theorem coefficientsDecodeBigEndianByType : Obligations.CoefficientsDecodeBigEndianByType := by
  unfold Obligations.CoefficientsDecodeBigEndianByType
  intro bytes
  have signed := coefficientAt_toInt bytes
  have unsigned := coefficientAt_toNat bytes
  exact ⟨signed 0, signed 1, signed 2, unsigned 3, unsigned 4, unsigned 5, signed 6, signed 7, signed 8, signed 9, signed 10⟩

/-! CALRD with a whole block (R60, R64). -/

/-- Settles O20: the transaction is done, and `loadCalibration` runs on the settled bus port. -/
theorem calrdLoadsTheWholeBlock : Obligations.CalrdLoadsTheWholeBlock := by
  unfold Obligations.CalrdLoadsTheWholeBlock
  intro s bytes hans hlen
  calc exec .calrd s
      = transact .rdCal loadCalibration s := rfl
    _ = .next (loadCalibration bytes (s.settle .rdCal)) := transact_of_ok hans hlen
    _ = _ := by rw [State.settle_eq, loadCalibration_eq, State.requestsWith]

/-! An INIT whose block read fails (R63, R103). -/

/-- A transaction that fails, or whose answer is short, is settled and aborts with IoError (R32, R111). -/
theorem transact_of_failed {r : BusRequest} {onOk : List Byte → State → State} {s : State}
    (h : s.busAns = some .fail ∨ ∃ bytes, s.busAns = some (.ok bytes) ∧ bytes.length < r.answerLength) :
    transact r onOk s = .next ((s.settle r).abort .ioError) := by
  obtain hfail | ⟨bytes, hshort, hlen⟩ := h
  · simp [transact, State.busResult, hfail]
  · simp [transact, State.busResult, hshort, hlen]

/-- An idle CSB accepts an offered INIT in the same step (R102, R103). -/
theorem step_of_offer_init {s : State} {rest : List Event} (hidle : s.seq = .idle)
    (h : s.script = .offer 0x01#8 :: rest) :
    step s = .next ((State.offered 0x01#8 { s with script := rest }).acceptCommand .calrd) := by
  rw [step_of_offer_at_idle h hidle, turn_idle (s := State.offered 0x01#8 { s with script := rest }) hidle]
  simp [execInit, State.busy, hidle]

/-- A bus phase whose answer is a failure, or short, aborts with IoError in the step of the answer (R10, R111). -/
theorem step_of_failed_answer {s : State} {r : BusRequest} {a : BusAnswer} {rest : List Event}
    (hr : s.seq.request? = some r) (h : s.script = .answer a :: rest)
    (hfailed : a = .fail ∨ ∃ bytes, a = .ok bytes ∧ bytes.length < r.answerLength) :
    step s = .next (((State.answered a { s with script := rest }).settle r).abort .ioError) := by
  obtain ⟨onOk, hturn⟩ := turn_busPhase (s := State.answered a { s with script := rest }) hr
  rw [step_of_answer_at_busPhase h (by rw [hr]; rfl), hturn, transact_of_failed]
  simpa using hfailed

/-- Settles O52: the offer is accepted at CALRD, and the failed answer aborts there; neither writes the calibration or the
reading. -/
theorem failedLoadKeepsCalibrationAndReading : Obligations.FailedLoadKeepsCalibrationAndReading := by
  unfold Obligations.FailedLoadKeepsCalibrationAndReading
  intro s a rest hidle hfree hscript hfailed
  have haccept := step_of_offer_init hidle hscript
  have habort := step_of_failed_answer (r := .rdCal) (rest := rest)
    (s := (State.offered 0x01#8 { s with script := .answer a :: rest }).acceptCommand .calrd) rfl rfl hfailed
  refine ⟨_, (run_succ haccept).trans ((run_succ habort).trans (run_zero _)), ?_⟩
  simp [State.snapshot, hfree]

end Sys2Proof.Machine
end

section
/-! The sequencer (spec/41_sequencer.md): the two raw samples and the command writes (R67, R69, R70, R72), the conversion waits
(R68, R71, R73), and the invariant that every step keeps (R28, R39, R77, R78, R108, R129). -/

namespace Sys2Proof.Machine

/-! The raw samples as numbers (R54, R69, R72). -/

/-- UT's new value: two bytes, never sign-extended. -/
theorem rawTemperature_toInt (bytes : List Byte) :
    (rawTemperature bytes).toInt = (byteAt bytes 0).toNat * 256 + (byteAt bytes 1).toNat := by
  rw [rawTemperature, zext32_toInt, be16_toNat]
  norm_cast

/-- UP's new value: shifting the three bytes right by 8 drops the third. -/
theorem rawPressure_toInt (bytes : List Byte) :
    (rawPressure bytes).toInt = (byteAt bytes 0).toNat * 256 + (byteAt bytes 1).toNat := by
  have h0 := (byteAt bytes 0).isLt
  have h1 := (byteAt bytes 1).isLt
  have h2 := (byteAt bytes 2).isLt
  rw [rawPressure, be24_toNat, toS32_toInt_of_fits] <;> omega

/-- A sample of two bytes keeps to the range of R77. -/
theorem toNat_le_of_sample {w : Word} {b0 b1 : Byte} (h : w.toInt = b0.toNat * 256 + b1.toNat) : w.toNat ≤ 65535 := by
  have h0 := b0.isLt
  have h1 := b1.isLt
  rw [BitVec.toInt_eq_toNat_cond] at h
  split at h <;> omega

theorem rawTemperature_toNat_le (bytes : List Byte) : (rawTemperature bytes).toNat ≤ 65535 :=
  toNat_le_of_sample (rawTemperature_toInt bytes)

theorem rawPressure_toNat_le (bytes : List Byte) : (rawPressure bytes).toNat ≤ 65535 :=
  toNat_le_of_sample (rawPressure_toInt bytes)

/-! The micro-operations of an acquisition, run with their answer (R67 to R72). -/

/-- Settles O26: the transaction is done, and its two bytes are the sample. -/
theorem treadStoresTheUnsignedSample : Obligations.TreadStoresTheUnsignedSample := by
  unfold Obligations.TreadStoresTheUnsignedSample
  intro s b0 b1 hans
  have hexec : exec .tread s = .next (storeTemperature [b0, b1] (s.settle .rdT)) := transact_of_ok hans rfl
  exact ⟨_, hexec, rawTemperature_toInt [b0, b1], by rw [State.settle_eq]; rfl⟩

/-- Settles O27: the transaction is done, and `rawPressure` does not depend on the third of its bytes. -/
theorem preadDropsTheThirdByte : Obligations.PreadDropsTheThirdByte := by
  unfold Obligations.PreadDropsTheThirdByte
  intro s b0 b1 b2 hans
  have hexec : exec .pread s = .next (storePressure [b0, b1, b2] (s.settle .rdP)) := transact_of_ok hans rfl
  exact ⟨_, hexec, rawPressure_toInt [b0, b1, b2], by rw [State.settle_eq]; rfl⟩

/-- Settles O24: a write's answer carries no byte, so the transaction is done. -/
theorem commandWriteStartsTheWait : Obligations.CommandWriteStartsTheWait := by
  unfold Obligations.CommandWriteStartsTheWait
  intro s hans
  constructor
  · calc exec .tcmd s
        = .next (startTemperature [] (s.settle .wrTemp)) := transact_of_ok hans rfl
      _ = _ := by rw [State.settle_eq]; rfl
  · calc exec .pcmd s
        = .next (startPressure [] (s.settle .wrPres)) := transact_of_ok hans rfl
      _ = _ := by rw [State.settle_eq]; rfl

theorem State.waitThen_of_zero {s : State} (p : Phase) (h : s.waitcnt = 0) : s.waitThen p = { s with seq := p } :=
  if_pos h

theorem State.waitThen_of_ne_zero {s : State} (p : Phase) (h : s.waitcnt ≠ 0) : s.waitThen p = s :=
  if_neg h

/-- Settles O25: both waits are `State.waitThen`, which tests WAITCNT. -/
theorem waitsAreGatedByTheCounter : Obligations.WaitsAreGatedByTheCounter := by
  unfold Obligations.WaitsAreGatedByTheCounter
  intro s
  refine ⟨fun hzero => ?ended, fun hcnt => ?running⟩
  case ended =>
    exact ⟨congrArg Host.Outcome.next (State.waitThen_of_zero .tread hzero),
      congrArg Host.Outcome.next (State.waitThen_of_zero .pread hzero)⟩
  case running =>
    exact ⟨congrArg Host.Outcome.next (State.waitThen_of_ne_zero .tread hcnt),
      congrArg Host.Outcome.next (State.waitThen_of_ne_zero .pread hcnt)⟩

/-! Ticks (R73). -/

theorem step_of_tick {s : State} {rest : List Event} (h : s.script = .tick :: rest) :
    step s = .next (State.ticked { s with script := rest }) := by
  rw [step, h]; rfl

/-- Settles O4: a tick is `State.ticked`, which takes one off WAITCNT and touches no other field. -/
theorem tickCountsDownAndNothingElse : Obligations.TickCountsDownAndNothingElse := by
  unfold Obligations.TickCountsDownAndNothingElse
  intro s rest hscript
  exact ⟨_, step_of_tick hscript, State.ticked_waitcnt _, State.ticked_eq _⟩

/-! A run of a conversion wait (R68, R71, R74). -/

/-- The ticks among the first `n + 1` events: those of the first event, and those of the `n` after it. -/
theorem ticksAmong_succ (n : Nat) (script : List Event) :
    ticksAmong (n + 1) script = ticksAmong 1 script + ticksAmong n script.tail := by
  cases script with
  | nil => simp [ticksAmong]
  | cons e rest => simp [ticksAmong, List.count_cons, Nat.add_comm]

theorem turn_of_running_wait {s : State} (hwait : s.seq = .twait ∨ s.seq = .pwait) (hcnt : s.waitcnt ≠ 0) :
    turn s = .next s := by
  obtain hp | hp := hwait
  · rw [turn_twait hp, execTwait, State.waitThen_of_ne_zero _ hcnt]
  · rw [turn_pwait hp, execPwait, State.waitThen_of_ne_zero _ hcnt]

/-- A step of a wait that is not over, unless it is a reset, keeps the phase, and takes one off WAITCNT when it is a tick. -/
theorem step_of_running_wait {s : State} (hwait : s.seq = .twait ∨ s.seq = .pwait) (hcnt : s.waitcnt ≠ 0)
    (hreset : ∀ e ∈ s.script.take 1, e ≠ .rst) :
    ∃ t, step s = .next t ∧ t.seq = s.seq ∧ t.script = s.script.tail ∧
      t.waitcnt.toNat = s.waitcnt.toNat - ticksAmong 1 s.script := by
  have hbusy : s.busy = true := by obtain hp | hp := hwait <;> simp [State.busy, hp]
  have hnoBus : s.seq.request? = none := by obtain hp | hp := hwait <;> rw [hp] <;> rfl
  rcases hs : s.script with - | ⟨e, rest⟩
  · exact ⟨s, (step_of_script_nil hs).trans (turn_of_running_wait hwait hcnt), rfl, hs, rfl⟩
  have hstep : step s = perform e { s with script := rest } := by rw [step, hs]
  cases e
  case rst => exact absurd rfl (hreset .rst (by simp [hs]))
  case tick => exact ⟨_, step_of_tick hs, State.ticked_seq _, State.ticked_script _, State.ticked_waitcnt _⟩
  case read | withdraw | lateAnswer => exact ⟨_, hstep, rfl, rfl, rfl⟩
  case offer => exact ⟨_, hstep.trans (if_pos hbusy), rfl, rfl, rfl⟩
  case answer => exact ⟨_, hstep.trans (if_neg (by simp [hnoBus])), rfl, rfl, rfl⟩
  case run => exact ⟨_, hstep.trans (turn_of_running_wait hwait hcnt), rfl, rfl, rfl⟩

/-- Settles O50, by induction on the number of steps: while fewer ticks than WAITCNT are to come, WAITCNT is not yet zero. -/
theorem waitLastsUntilItsTicksHaveCome : Obligations.WaitLastsUntilItsTicksHaveCome := by
  unfold Obligations.WaitLastsUntilItsTicksHaveCome
  intro n
  induction n with
  | zero => exact fun s _ _ _ => ⟨s, run_zero s, rfl, by simp [ticksAmong]⟩
  | succ n ih =>
    intro s hwait hreset hticks
    rw [ticksAmong_succ] at hticks ⊢
    have hcnt : s.waitcnt ≠ 0 := fun h0 => by simp [h0] at hticks
    obtain ⟨t, hstep, hseq, hscript, hw⟩ := step_of_running_wait hwait hcnt fun e he =>
      hreset e (List.take_subset_take_left _ (by omega) he)
    have hrest : ∀ e ∈ t.script.take n, e ≠ .rst := fun e he =>
      hreset e (List.mem_of_mem_tail (by rw [List.tail_take_eq_take_tail, ← hscript]; exact he))
    obtain ⟨u, hrun, huseq, huw⟩ := ih t (by rwa [hseq]) hrest (by rw [hscript]; omega)
    rw [hscript] at huw
    exact ⟨u, (run_succ hstep).trans hrun, huseq.trans hseq, by omega⟩

/-! The invariant, operation by operation. Each proof names the parts of the invariant that the operation's writes concern; the
other parts are the old state's. -/

/-- A phase without a transaction has nothing on the bus (R39). -/
theorem State.Inv.bus_free {s : State} (h : s.Inv) (hr : s.seq.request? = none) : s.busReq = none := by
  rw [Option.eq_none_iff_forall_ne_some]
  intro r hreq
  have hphase := h.bus_phase r hreq
  rw [hr] at hphase
  exact nomatch hphase

/-- The phases at which STATE is Measuring (R108). -/
theorem DevState.measuring_agrees_iff {p : Phase} :
    DevState.measuring.agrees p = true ↔ p ≠ .idle ∧ p ≠ .calrd ∧ p ≠ .tcmd := by
  simp [DevState.agrees, and_assoc]

/-- At those phases STATE is nothing else (R108). -/
theorem DevState.eq_measuring {d : DevState} {p : Phase} (hd : d.agrees p = true)
    (hp : DevState.measuring.agrees p = true) : d = .measuring := by
  obtain ⟨hidle, hcalrd, htcmd⟩ := DevState.measuring_agrees_iff.1 hp
  cases d <;> simp_all [DevState.agrees]

/-- An INIT is accepted in any STATE at rest (R103, R108). -/
theorem DevState.agrees_calrd_of_idle {d : DevState} (h : d.agrees .idle = true) : d.agrees .calrd = true := by
  cases d <;> exact h

/-- A REFRESH is accepted at rest only once a calibration was loaded (R104, R108). -/
theorem DevState.agrees_tcmd_of_idle {d : DevState} (h : d.agrees .idle = true) (hd : d ≠ .uninitialized) :
    d.agrees .tcmd = true := by
  cases d
  case uninitialized => exact absurd rfl hd
  case calibrationLoaded | measuring => exact nomatch h
  case ready | error => rfl

/-- Reset gives every field the invariant speaks of its value in `State.reset` (R27, R125). -/
theorem State.inv_resetStep (s : State) : s.resetStep.Inv :=
  have h : State.reset.Inv := invariantHoldsAtReset
  { h with }

theorem State.Inv.ticked {s : State} (h : s.Inv) : s.ticked.Inv := by
  rw [State.ticked_eq]
  refine { h with wait_zero := fun htwait hpwait => BitVec.eq_of_toNat_eq ?_ }
  rw [State.ticked_waitcnt, h.wait_zero htwait hpwait]
  rfl

theorem State.Inv.emit {s : State} {r : BusRequest} (h : s.Inv) (hr : s.seq.request? = some r) : (s.emit r).Inv := by
  obtain ⟨-, he⟩ | ⟨-, he⟩ := s.emit_cases r
  · rw [he]
    exact { h with bus_phase := fun _ hreq => hr.trans hreq }
  · rwa [he]

/-- Settling a transaction takes its answer off the bus (log 2). -/
theorem State.Inv.settle {s : State} (h : State.Inv { s with busAns := none }) (r : BusRequest) : (s.settle r).Inv := by
  rw [State.settle_eq]
  exact { h with bus_phase := nofun, no_answer := rfl }

theorem State.Inv.rejectCommand {s : State} (h : s.Inv) (hseq : s.seq = .idle) : s.rejectCommand.Inv :=
  { h with err_clear := fun hbusy => absurd hseq hbusy }

theorem State.Inv.acceptCommand_calrd {s : State} (h : s.Inv) (hseq : s.seq = .idle) : (s.acceptCommand .calrd).Inv :=
  { h with
    wait_zero := fun _ _ => h.wait_zero (by simp [hseq]) (by simp [hseq])
    cal_loaded := fun _ hcalrd => absurd rfl hcalrd
    bus_phase := by simp [h.bus_free (by rw [hseq]; rfl)]
    err_clear := fun _ => rfl
    state_agrees := DevState.agrees_calrd_of_idle (hseq ▸ h.state_agrees) }

theorem State.Inv.acceptCommand_tcmd {s : State} (h : s.Inv) (hseq : s.seq = .idle) (hcal : s.calValid = true) :
    (s.acceptCommand .tcmd).Inv :=
  have hloaded : s.devState ≠ .uninitialized := fun hd => by simp [h.unloaded hd] at hcal
  { h with
    wait_zero := fun _ _ => h.wait_zero (by simp [hseq]) (by simp [hseq])
    cal_loaded := fun _ _ => hcal
    bus_phase := by simp [h.bus_free (by rw [hseq]; rfl)]
    err_clear := fun _ => rfl
    state_agrees := DevState.agrees_tcmd_of_idle (hseq ▸ h.state_agrees) hloaded }

theorem State.Inv.abort {s : State} (h : s.Inv) (hfree : s.busReq = none) (hwait : s.waitcnt = 0) (e : ErrCode) :
    (s.abort e).Inv :=
  { h with
    wait_zero := fun _ _ => hwait
    cal_loaded := fun hbusy => absurd rfl hbusy
    bus_phase := by simp [hfree]
    err_clear := fun hbusy => absurd rfl hbusy
    state_agrees := rfl
    ready_data := nofun
    uncalibrated := fun _ => .inr rfl
    unloaded := nofun }

theorem State.Inv.loadCalibration {s : State} (h : s.Inv) (hseq : s.seq = .calrd) (hfree : s.busReq = none)
    (bytes : List Byte) : (loadCalibration bytes s).Inv :=
  { h with
    wait_zero := fun _ _ => h.wait_zero (by simp [hseq]) (by simp [hseq])
    cal_loaded := fun _ _ => rfl
    bus_phase := by simp [hfree]
    err_clear := fun _ => h.err_clear (by simp [hseq])
    state_agrees := rfl
    data_cal := fun _ => rfl
    ready_data := nofun
    uncalibrated := nofun
    unloaded := nofun }

theorem State.Inv.startTemperature {s : State} (h : s.Inv) (hseq : s.seq = .tcmd) (hfree : s.busReq = none)
    (bytes : List Byte) : (startTemperature bytes s).Inv :=
  have hcal : s.calValid = true := h.cal_loaded (by simp [hseq]) (by simp [hseq])
  { h with
    wait_zero := fun htwait => absurd rfl htwait
    cal_loaded := fun _ _ => hcal
    bus_phase := by simp [hfree]
    err_clear := fun _ => h.err_clear (by simp [hseq])
    state_agrees := rfl
    ready_data := nofun
    uncalibrated := by simp [hcal]
    unloaded := nofun }

/-- From one phase of an acquisition to another (TREAD, PCMD, PREAD, a wait over, COMP): with WAITCNT = 0 outside the waits and
the samples in range, everything else holds at the new phase because it held at the old one. -/
theorem State.Inv.moveOn {s : State} (h : s.Inv) (hseq : DevState.measuring.agrees s.seq = true) (hfree : s.busReq = none)
    {p : Phase} (hp : DevState.measuring.agrees p = true) {ut up tn pn : Word} {waitcnt : Half}
    (hut : ut.toNat ≤ 65535) (hup : up.toNat ≤ 65535) (hwait : p ≠ .twait → p ≠ .pwait → waitcnt = 0) :
    State.Inv { s with ut, up, tn, pn, seq := p, waitcnt } :=
  have ⟨hidle, hcalrd, _⟩ := DevState.measuring_agrees_iff.1 hseq
  { h with
    wait_zero := hwait
    cal_loaded := fun _ _ => h.cal_loaded hidle hcalrd
    ut_range := hut
    up_range := hup
    bus_phase := by simp [hfree]
    err_clear := fun _ => h.err_clear hidle
    state_agrees := DevState.eq_measuring h.state_agrees hseq ▸ hp }

/-- UPD takes CSB to rest with a reading held (R106); the coefficients it was computed from are still loaded (R28). -/
theorem State.Inv.execUpd {s t : State} (h : s.Inv) (hseq : s.seq = .upd) (ht : execUpd s = .next t) : t.Inv := by
  have hcal : s.calValid = true := h.cal_loaded (by simp [hseq]) (by simp [hseq])
  obtain rfl := Host.Outcome.next.inj ht
  exact { h with
    wait_zero := fun _ _ => h.wait_zero (by simp [hseq]) (by simp [hseq])
    cal_loaded := fun hbusy => absurd rfl hbusy
    bus_phase := by simp [h.bus_free (by rw [hseq]; rfl)]
    err_clear := fun hbusy => absurd rfl hbusy
    state_agrees := rfl
    store_empty := nofun
    data_cal := fun _ => hcal
    ready_data := fun _ => rfl
    uncalibrated := by simp [hcal]
    unloaded := nofun }

/-! The invariant along a turn and a step. -/

/-- WAITCNT is 0 at a phase with a transaction (R78). -/
theorem State.Inv.waitcnt_at_busPhase {s : State} {r : BusRequest} (h : s.Inv) (hr : s.seq.request? = some r) :
    s.waitcnt = 0 :=
  h.wait_zero (fun hp => by simp [hp, Phase.request?] at hr) (fun hp => by simp [hp, Phase.request?] at hr)

/-- A turn keeps the invariant. The answer that completes a transaction stands on the bus only inside the turn (log 2), so the
invariant is asked of the state without it, and an answer only of the phases with a transaction. -/
theorem TurnTo.inv {s t : State} (h : TurnTo s t) (hinv : State.Inv { s with busAns := none })
    (hans : s.seq.request? = none → s.busAns = none) : t.Inv := by
  have inv_of_quiet (hquiet : s.busAns = none) : s.Inv := { hinv with no_answer := hquiet }
  have inv_of_noBus {p : Phase} (hp : s.seq = p) (hr : p.request? = none) : s.Inv :=
    inv_of_quiet (hans (hp ▸ hr))
  have settled (r : BusRequest) : (s.settle r).Inv := State.Inv.settle hinv r
  cases h
  case rest hseq _ => exact inv_of_noBus hseq rfl
  case acceptInit hseq _ _ => exact (inv_of_noBus hseq rfl).acceptCommand_calrd hseq
  case acceptRefresh hseq _ _ hcal => exact (inv_of_noBus hseq rfl).acceptCommand_tcmd hseq hcal
  case rejectRefresh hseq _ _ _ | rejectReserved hseq _ _ _ => exact (inv_of_noBus hseq rfl).rejectCommand hseq
  case waiting r hr hquiet => exact (inv_of_quiet hquiet).emit hr
  case failed r hr _ =>
    have hwait := (settled r).waitcnt_at_busPhase (by simpa using hr)
    exact (settled r).abort rfl hwait .ioError
  case calrd bytes hseq _ _ => exact (settled .rdCal).loadCalibration (by simpa using hseq) rfl bytes
  case tcmd bytes hseq _ => exact (settled .wrTemp).startTemperature (by simpa using hseq) rfl bytes
  case tread bytes hseq _ _ =>
    have h := settled .rdT
    exact h.moveOn (by simp [hseq, DevState.agrees]) rfl rfl (rawTemperature_toNat_le bytes) h.up_range
      fun _ _ => h.wait_zero (by simp [hseq]) (by simp [hseq])
  case pcmd bytes hseq _ =>
    have h := settled .wrPres
    exact h.moveOn (by simp [hseq, DevState.agrees]) rfl rfl h.ut_range h.up_range fun _ hpwait => absurd rfl hpwait
  case pread bytes hseq _ _ =>
    have h := settled .rdP
    exact h.moveOn (by simp [hseq, DevState.agrees]) rfl rfl h.ut_range (rawPressure_toNat_le bytes)
      fun _ _ => h.wait_zero (by simp [hseq]) (by simp [hseq])
  case waitOver hseq hzero =>
    obtain hseq | hseq := hseq
    all_goals
      have h := inv_of_noBus hseq rfl
      exact h.moveOn (by rw [hseq]; rfl) (h.bus_free (by rw [hseq]; rfl)) (by rw [hseq]; rfl) h.ut_range h.up_range
        fun _ _ => hzero
  case waitOn hseq _ => exact hseq.elim (inv_of_noBus · rfl) (inv_of_noBus · rfl)
  case comp v p hseq _ _ =>
    have h := inv_of_noBus hseq rfl
    exact h.moveOn (by rw [hseq]; rfl) (h.bus_free (by rw [hseq]; rfl)) rfl h.ut_range h.up_range
      fun _ _ => h.wait_zero (by simp [hseq]) (by simp [hseq])
  case hazard hseq _ =>
    have h := inv_of_noBus hseq rfl
    exact h.abort (h.bus_free (by rw [hseq]; rfl)) (h.wait_zero (by simp [hseq]) (by simp [hseq])) .arithmeticHazard
  case upd hseq => exact (inv_of_noBus hseq rfl).execUpd hseq rfl

/-- Settles O41: the environment's moves touch only the ports and the model's own fields, but for a reset and a tick; the other
steps are turns. -/
theorem invariantIsKeptByEveryStep : Obligations.InvariantIsKeptByEveryStep := by
  unfold Obligations.InvariantIsKeptByEveryStep
  intro s t hinv hstep
  cases step_next hstep
  case rst => exact State.inv_resetStep _
  case tick rest _ => exact State.Inv.ticked (s := { s with script := rest }) { hinv with }
  case read | withdraw | offerHeld | ignored => exact { hinv with }
  case offerTaken hturn => exact hturn.inv { hinv with no_answer := rfl } fun _ => hinv.no_answer
  case run hturn => exact hturn.inv { hinv with no_answer := rfl } fun _ => hinv.no_answer
  case answered hr hturn =>
    exact hturn.inv { hinv with no_answer := rfl } fun hnone => absurd (hr.symm.trans hnone) (Option.some_ne_none _)

end Sys2Proof.Machine
end

section
/-! The pure functions of R8 as numbers (R81 to R84): what `wrap` and `unsigned` keep, then one rule per function that says
which number its result is. -/

namespace Sys2Proof.Reference

/-- `to_s32` keeps the `s32` numbers and only those (R81). -/
theorem wrap_eq_self_iff {z : Int} : wrap z = z ↔ inS32 z := by
  have := Int.le_bmod (x := z) (m := 2 ^ 32) (by norm_num)
  have := Int.bmod_lt (x := z) (m := 2 ^ 32) (by norm_num)
  rw [wrap, inS32]
  constructor
  · omega
  · exact fun h => Int.bmod_eq_of_le (by omega) (by omega)

theorem wrap_of_inS32 {z : Int} (h : inS32 z) : wrap z = z :=
  wrap_eq_self_iff.2 h

theorem inS32_wrap (z : Int) : inS32 (wrap z) :=
  wrap_eq_self_iff.1 Int.bmod_bmod

/-- `to_u32` keeps the `u32` numbers (R84). -/
theorem unsigned_of_fits {z : Int} (h0 : 0 ≤ z) (h : z < 4294967296) : unsigned z = z :=
  Int.emod_eq_of_lt h0 h

theorem unsigned_bounds (z : Int) : 0 ≤ unsigned z ∧ unsigned z < 4294967296 :=
  ⟨Int.emod_nonneg _ (by norm_num), Int.emod_lt_of_pos _ (by norm_num)⟩

/-- Rounding down by a positive divisor stays in range (R82). -/
theorem inS32.ediv {z n : Int} (hz : inS32 z) (hn : 0 < n) : inS32 (z / n) := by
  obtain ⟨hlow, hhigh⟩ := hz
  exact ⟨Int.le_ediv_of_mul_le hn (by nlinarith), Int.ediv_lt_of_lt_mul hn (by nlinarith)⟩

/-- A right shift by `k` leaves `31 - k` bits and the sign: `n` is `2^k` and `m` is `2^(31 - k)` (R82). -/
theorem wrap_ediv_bounds (z : Int) {n m : Int} (hn : 0 < n := by norm_num) (hnm : n * m = 2147483648 := by norm_num) :
    -m ≤ wrap z / n ∧ wrap z / n < m := by
  obtain ⟨hlow, hhigh⟩ := inS32_wrap z
  exact ⟨Int.le_ediv_of_mul_le hn (by linarith), Int.ediv_lt_of_lt_mul hn (by linarith)⟩

/-- A truncated quotient is no larger than its dividend (R83). -/
theorem tdiv_bounds {z m : Int} (hlow : -m ≤ z) (hhigh : z ≤ m) (d : Int) : -m ≤ z.tdiv d ∧ z.tdiv d ≤ m := by
  have := Int.natAbs_tdiv_le_natAbs z d
  omega

/-- A square is an `s32` up to 46340 (R89, R99). -/
theorem inS32_mul_self_iff (z : Int) : inS32 (z * z) ↔ |z| < 46341 := by
  rw [inS32, ← abs_mul_abs_self z]
  have := abs_nonneg z
  constructor
  · intro ⟨_, hhigh⟩
    by_contra hbig
    nlinarith
  · exact fun hsmall => ⟨by nlinarith, by nlinarith⟩

end Sys2Proof.Reference

namespace Sys2Proof.Machine

open Reference (wrap unsigned inS32)

/-- A word read signed is an `s32` (R7). -/
theorem inS32_toInt (a : Word) : inS32 a.toInt :=
  ⟨a.le_toInt, a.toInt_lt⟩

/-- A word is zero exactly when its signed number is. -/
theorem toInt_eq_zero_iff {a : Word} : a.toInt = 0 ↔ a = 0#32 :=
  BitVec.toInt_inj (y := 0#32)

/-- A word is zero exactly when its unsigned number is. -/
theorem toNat_eq_zero_iff {a : Word} : a.toNat = 0 ↔ a = 0#32 :=
  BitVec.toNat_inj (y := 0#32)

/-- The unsigned number of a word is its signed one modulo 2^32 (R7). -/
theorem unsigned_toInt (a : Word) : unsigned a.toInt = a.toNat := by
  have := a.isLt
  rw [unsigned, BitVec.toInt_eq_toNat_cond]
  omega

/-- `to_u32` keeps a natural number that fits (R84). -/
theorem toU32_natCast_toNat {n : Nat} (h : n < 2 ^ 32) : (toU32 n).toNat = n := by
  rw [toU32, BitVec.ofInt_natCast, BitVec.toNat_ofNat, Nat.mod_eq_of_lt h]

/-! Signed and unsigned `+`, `-`, `×` (R81, R84). -/

@[simp] theorem addS_toInt (a b : Word) : (addS a b).toInt = wrap (a.toInt + b.toInt) :=
  toS32_toInt _

@[simp] theorem subS_toInt (a b : Word) : (subS a b).toInt = wrap (a.toInt - b.toInt) :=
  toS32_toInt _

@[simp] theorem mulS_toInt (a b : Word) : (mulS a b).toInt = wrap (a.toInt * b.toInt) :=
  toS32_toInt _

@[simp] theorem addU_toNat (a b : Word) : ((addU a b).toNat : Int) = unsigned (a.toNat + b.toNat) :=
  toU32_toNat _

@[simp] theorem subU_toNat (a b : Word) : ((subU a b).toNat : Int) = unsigned (a.toNat - b.toNat) :=
  toU32_toNat _

@[simp] theorem mulU_toNat (a b : Word) : ((mulU a b).toNat : Int) = unsigned (a.toNat * b.toNat) :=
  toU32_toNat _

/-- A signed product is exact exactly when it fits (R81). -/
theorem mulS_exact_iff (a b : Word) : (mulS a b).toInt = a.toInt * b.toInt ↔ inS32 (a.toInt * b.toInt) := by
  rw [mulS_toInt, Reference.wrap_eq_self_iff]

/-! Casts (R84, D13): the same 32 bits. -/

@[simp] theorem asU32_eq (a : Word) : asU32 a = a :=
  BitVec.ofInt_toInt

@[simp] theorem asS32_eq (a : Word) : asS32 a = a := by
  rw [asS32, toS32, BitVec.ofInt_natCast, BitVec.ofNat_toNat, BitVec.setWidth_eq]

/-- Settles O32: each operation narrows the exact number once, and narrowing keeps what fits. -/
theorem arithmeticIsExactModuloItsWidth : Obligations.ArithmeticIsExactModuloItsWidth := by
  unfold Obligations.ArithmeticIsExactModuloItsWidth
  intro a b
  refine ⟨addS_toInt a b, subS_toInt a b, mulS_toInt a b, addU_toNat a b, subU_toNat a b, mulU_toNat a b, toU32_toNat _,
    toS32_toInt _, fun h => ?_, fun h => ?_, (mulS_exact_iff a b).2⟩
  · rw [addS_toInt, Reference.wrap_of_inS32 h]
  · rw [subS_toInt, Reference.wrap_of_inS32 h]

/-! Shifts and divisions (R82, R83). -/

/-- A right shift of a signed value floors (R82). -/
@[simp] theorem asr_toInt (a : Word) (n : Nat) : (asr a n).toInt = a.toInt / 2 ^ n :=
  toS32_toInt_of_fits ((inS32_toInt a).ediv (by positivity))

/-- A right shift of an unsigned value floors (R82). -/
@[simp] theorem lsr_toNat (a : Word) (n : Nat) : (lsr a n).toNat = a.toNat / 2 ^ n := by
  have hnarrow : lsr a n = toU32 (a.toNat / 2 ^ n : Nat) := by simp [lsr]
  rw [hnarrow, toU32_natCast_toNat ((Nat.div_le_self _ _).trans_lt a.isLt)]

theorem tdiv_eq_none_iff (a b : Word) : tdiv a b = none ↔ b.toInt = 0 ∨ a.toInt = -2147483648 ∧ b.toInt = -1 := by
  rw [tdiv]
  split_ifs <;> simp_all

/-- Where `tdiv` is defined its quotient is the truncated one, which fits (R83). -/
theorem tdiv_toInt {a b q : Word} (h : tdiv a b = some q) : q.toInt = a.toInt.tdiv b.toInt := by
  have hdefined : ¬ (b.toInt = 0 ∨ a.toInt = -2147483648 ∧ b.toInt = -1) := by
    rw [← tdiv_eq_none_iff, h]
    exact Option.some_ne_none q
  obtain ⟨hzero, hfits⟩ := not_or.1 hdefined
  rw [tdiv, if_neg hzero, if_neg hfits] at h
  rw [← Option.some.inj h, toS32_toInt, ← BitVec.toInt_sdiv]
  apply BitVec.toInt_sdiv_of_ne_or_ne
  rw [← not_and_or]
  rintro ⟨rfl, rfl⟩
  exact hfits (by decide)

theorem udiv_eq_none_iff (a b : Word) : udiv a b = none ↔ b.toNat = 0 := by
  rw [udiv]
  split_ifs with h <;> simp [h]

/-- Where `udiv` is defined its quotient is the natural one (R83). -/
theorem udiv_toNat {a b q : Word} (h : udiv a b = some q) : q.toNat = a.toNat / b.toNat := by
  have hzero : ¬ b.toNat = 0 := by
    rw [← (udiv_eq_none_iff a b).not, h]
    exact Option.some_ne_none q
  rw [udiv, if_neg hzero] at h
  have hnarrow : q = toU32 (a.toNat / b.toNat : Nat) := by simp [← Option.some.inj h]
  rw [hnarrow, toU32_natCast_toNat ((Nat.div_le_self _ _).trans_lt a.isLt)]

/-- Settles O33: each shift and division narrows a quotient that fits. -/
theorem shiftsFloorAndDivisionsTruncate : Obligations.ShiftsFloorAndDivisionsTruncate := by
  unfold Obligations.ShiftsFloorAndDivisionsTruncate
  exact ⟨fun a n _ => ⟨asr_toInt a n, lsr_toNat a n⟩, shlS_sext32_toInt, fun a b =>
    ⟨tdiv_eq_none_iff a b, fun _ => tdiv_toInt, udiv_eq_none_iff a b, fun _ => udiv_toNat⟩⟩

/-- Settles O37: a product is exact exactly when it fits (`mulS_exact_iff`). -/
theorem productsOverflowFromTheListedLimits : Obligations.ProductsOverflowFromTheListedLimits := by
  unfold Obligations.ProductsOverflowFromTheListedLimits
  intro b6 x p
  refine ⟨?_, ?_, ?_, ?_⟩
  · rw [mulS_exact_iff, Reference.inS32_mul_self_iff]
  · rw [mulS_exact_iff, Reference.inS32_mul_self_iff]
  · calc _ ↔ inS32 (x.toInt * 3038) := mulS_exact_iff x 3038#32
      _ ↔ _ := by rw [inS32, abs_lt]; omega
  · calc _ ↔ inS32 (-7357 * p.toInt) := mulS_exact_iff (toS32 (-7357)) p
      _ ↔ _ := by rw [inS32, abs_lt]; omega

end Sys2Proof.Machine
end

section
/-! The steps of the pipeline as numbers (R85 to R96): one rule per step, then the ranges the spec derives and step 10. -/

namespace Sys2Proof.Machine

open Reference (wrap unsigned inS32)

/-- A signed coefficient lies in `-32768 .. 32767` (R80). -/
theorem half_toInt_bounds (h : Half) : -32768 ≤ h.toInt ∧ h.toInt ≤ 32767 := by
  have := h.le_toInt
  have := h.toInt_lt
  omega

/-- `zext_32` (R8, R80) keeps the number, read unsigned too. -/
theorem zext32_toNat (h : Half) : (zext32 h).toNat = h.toNat :=
  toU32_natCast_toNat (h.isLt.trans (by norm_num))

/-- A signed quotient at a tested divisor (R83, R97). -/
theorem definedQuotient_tdiv {a b : Word} (hzero : b.toInt ≠ 0) (hfits : a.toInt ≠ -2147483648 ∨ b.toInt ≠ -1) :
    ∃ q, definedQuotient (tdiv a b) = .ok q ∧ q.toInt = a.toInt.tdiv b.toInt := by
  obtain ⟨q, hq⟩ := Option.ne_none_iff_exists'.1 (tdiv_ne_none hzero hfits)
  exact ⟨q, by rw [hq, definedQuotient], tdiv_toInt hq⟩

/-- An unsigned quotient at a tested divisor (R83, R97). -/
theorem definedQuotient_udiv {a b : Word} (h : b ≠ 0#32) :
    ∃ q, definedQuotient (udiv a b) = .ok q ∧ q.toNat = a.toNat / b.toNat := by
  obtain ⟨q, hq⟩ := Option.ne_none_iff_exists'.1 (udiv_ne_none h)
  exact ⟨q, by rw [hq, definedQuotient], udiv_toNat hq⟩

/-! Steps 1 to 9. -/

theorem compX1_toInt (c : Calib) (ut : Word) :
    (compX1 (widen c) ut).toInt = wrap (wrap (ut.toInt - c.ac6.toNat) * c.ac5.toNat) / 32768 := by
  simp [compX1, widen, zext32_toInt]

theorem compDivisor_toInt (c : Calib) (x1 : Word) : (compDivisor (widen c) x1).toInt = wrap (x1.toInt + c.md.toInt) := by
  simp [compDivisor, widen, sext32_toInt]

/-- Step 2 (R86, R97): the hazard exactly at `d = 0`, else the truncated quotient. -/
theorem compX2_cases (c : Calib) (x1 : Word) :
    ((compDivisor (widen c) x1).toInt = 0 ∧ compX2 (widen c) x1 = .error .hazard) ∨
      ((compDivisor (widen c) x1).toInt ≠ 0 ∧ ∃ x2, compX2 (widen c) x1 = .ok x2 ∧
        x2.toInt = (c.mc.toInt * 2048).tdiv (compDivisor (widen c) x1).toInt) := by
  by_cases hd : (compDivisor (widen c) x1).toInt = 0
  · exact .inl ⟨hd, if_pos (toInt_eq_zero_iff.1 hd)⟩
  · have hdividend : (shlS (widen c).mc 11).toInt = c.mc.toInt * 2048 := shlS_sext32_toInt c.mc
    have := half_toInt_bounds c.mc
    obtain ⟨x2, hx2, hnum⟩ := definedQuotient_tdiv (a := shlS (widen c).mc 11) hd (.inl (by omega))
    refine .inr ⟨hd, x2, ?_, hdividend ▸ hnum⟩
    rw [compX2, if_neg (toInt_eq_zero_iff.not.1 hd), hx2]

theorem compB5_toInt (x1 x2 : Word) : (compB5 x1 x2).toInt = wrap (x1.toInt + x2.toInt) := by
  simp [compB5]

theorem compT_toInt (b5 : Word) : (compT b5).toInt = wrap (b5.toInt + 8) / 16 := by
  simp [compT]

theorem compB6_toInt (b5 : Word) : (compB6 b5).toInt = wrap (b5.toInt - 4000) := by
  simp [compB6]

theorem compSquare_toInt (b6 : Word) : (compSquare b6).toInt = wrap (b6.toInt * b6.toInt) / 4096 := by
  simp [compSquare]

theorem compX3Step5_toInt (c : Calib) (b6 : Word) :
    (compX3Step5 (widen c) b6).toInt =
      wrap (wrap (c.b2.toInt * (compSquare b6).toInt) / 2048 + wrap (c.ac2.toInt * b6.toInt) / 2048) := by
  simp [compX3Step5, widen, sext32_toInt]

/-- Step 6 (R90): the division by 4 is defined and truncates. -/
theorem compB3_eq_ok (c : Calib) (x3 : Word) :
    ∃ b3, compB3 (widen c) x3 = .ok b3 ∧
      b3.toInt = (wrap (wrap (wrap (c.ac1.toInt * 4) + x3.toInt) + 2)).tdiv 4 := by
  obtain ⟨b3, hb3, hnum⟩ := definedQuotient_tdiv (a := addS (addS (mulS (widen c).ac1 4#32) x3) 2#32) (b := 4#32)
    (by decide) (.inr (by decide))
  refine ⟨b3, hb3, ?_⟩
  simpa [widen, sext32_toInt] using hnum

theorem compX3Step7_toInt (c : Calib) (b6 : Word) :
    (compX3Step7 (widen c) b6).toInt =
      wrap (wrap (wrap (c.ac3.toInt * b6.toInt) / 8192 + wrap (c.b1.toInt * (compSquare b6).toInt) / 65536) + 2) / 4 := by
  simp [compX3Step7, widen, sext32_toInt]

theorem compB4_toNat (c : Calib) (x3 : Word) :
    ((compB4 (widen c) x3).toNat : Int) = unsigned (c.ac4.toNat * unsigned (wrap (x3.toInt + 32768))) / 32768 := by
  have hsum : ((addS x3 32768#32).toNat : Int) = unsigned (wrap (x3.toInt + 32768)) := by
    rw [← unsigned_toInt, addS_toInt]
    rfl
  simp [compB4, widen, zext32_toNat, hsum]

theorem compB7_toNat (up b3 : Word) :
    ((compB7 up b3).toNat : Int) = unsigned (unsigned (unsigned up.toInt - unsigned b3.toInt) * 50000) := by
  simp [compB7, unsigned_toInt]

/-! Step 10 (R94). -/

theorem compP_of_zero (b7 : Word) : compP 0#32 b7 = .error .hazard :=
  rfl

/-- Below `0x80000000` the doubling does not wrap and comes first. -/
theorem compP_of_small {b4 b7 : Word} (hzero : b4 ≠ 0#32) (hsmall : b7.toNat < 0x80000000) :
    ∃ p, compP b4 b7 = .ok p ∧ p.toNat = 2 * b7.toNat / b4.toNat := by
  obtain ⟨p, hp, hnum⟩ := definedQuotient_udiv (a := mulU b7 2#32) hzero
  have hdouble : ((mulU b7 2#32).toNat : Int) = b7.toNat * 2 := by
    rw [mulU_toNat]
    exact Reference.unsigned_of_fits (by positivity) (show (b7.toNat * 2 : Int) < 4294967296 by omega)
  refine ⟨p, by simp [compP, hzero, hsmall, hp, Except.map], ?_⟩
  rw [hnum, show (mulU b7 2#32).toNat = 2 * b7.toNat by omega]

/-- From `0x80000000` on the division comes first. -/
theorem compP_of_large {b4 b7 : Word} (hzero : b4 ≠ 0#32) (hlarge : 0x80000000 ≤ b7.toNat) :
    ∃ p, compP b4 b7 = .ok p ∧ p.toNat = b7.toNat / b4.toNat * 2 % 2 ^ 32 := by
  obtain ⟨q, hq, hnum⟩ := definedQuotient_udiv (a := b7) hzero
  refine ⟨mulU q 2#32, by simp [compP, hzero, hlarge, hq, Except.map], ?_⟩
  have hdouble : ((mulU q 2#32).toNat : Int) = (q.toNat * 2) % 2 ^ 32 := mulU_toNat q 2#32
  rw [← hnum]
  exact_mod_cast hdouble

/-- Step 10 as the number of `p`: the quotient, read signed. -/
theorem compP_eq_ok {b4 : Word} (hzero : b4 ≠ 0#32) (b7 : Word) :
    ∃ p, compP b4 b7 = .ok p ∧
      p.toInt = wrap (if (b7.toNat : Int) < 2147483648 then unsigned (b7.toNat * 2) / b4.toNat
        else unsigned (b7.toNat / b4.toNat * 2)) := by
  rcases Nat.lt_or_ge b7.toNat 0x80000000 with hsmall | hlarge
  · obtain ⟨p, hp, hnum⟩ := compP_of_small hzero hsmall
    refine ⟨p, hp, ?_⟩
    rw [if_pos (by omega), Reference.unsigned_of_fits (by positivity) (by omega), BitVec.toInt_eq_toNat_bmod, hnum,
      Nat.mul_comm]
    rfl
  · obtain ⟨p, hp, hnum⟩ := compP_of_large hzero hlarge
    refine ⟨p, hp, ?_⟩
    rw [if_neg (by omega), BitVec.toInt_eq_toNat_bmod, hnum]
    rfl

/-- Settles O35: the branches of step 10, and a divisor of at least 2 leaves room for the doubling. -/
theorem stepTenDoublesOnTheSafeSide : Obligations.StepTenDoublesOnTheSafeSide := by
  unfold Obligations.StepTenDoublesOnTheSafeSide
  intro b4 b7
  refine ⟨fun hzero => hzero ▸ compP_of_zero b7, compP_of_small, fun hzero hlarge => ?_⟩
  obtain ⟨p, hp, hnum⟩ := compP_of_large hzero hlarge
  refine ⟨p, hp, hnum, fun hone => ?_⟩
  have hnonzero : b4.toNat ≠ 0 := toNat_eq_zero_iff.not.2 hzero
  have hnotone : b4.toNat ≠ 1 := fun h => hone (BitVec.eq_of_toNat_eq h)
  have hhalf : b7.toNat / b4.toNat ≤ b7.toNat / 2 := Nat.div_le_div_left (by omega) (by norm_num)
  have := b7.isLt
  rw [hnum, Nat.mod_eq_of_lt (by omega)]

/-! Steps 11 and 12. -/

theorem compX1Step11_toInt (p : Word) :
    (compX1Step11 p).toInt = wrap (wrap (p.toInt / 256 * (p.toInt / 256)) * 3038) / 65536 := by
  simp [compX1Step11]

theorem compX2Step11_toInt (p : Word) : (compX2Step11 p).toInt = wrap (-7357 * p.toInt) / 65536 := by
  rw [compX2Step11, asr_toInt, mulS_toInt]
  rfl

theorem compPressure_toInt (p : Word) :
    (compPressure p).toInt =
      wrap (p.toInt + wrap (wrap ((compX1Step11 p).toInt + (compX2Step11 p).toInt) + 3791) / 16) := by
  simp [compPressure]

/-! Ranges. -/

/-- Settles O34: a right shift of an `s32` bounds its result, and a coefficient adds at most 2^15. -/
theorem pipelineVariablesStayInRange : Obligations.PipelineVariablesStayInRange := by
  unfold Obligations.PipelineVariablesStayInRange
  intro c ut b6 x3
  have hx1 : -65536 ≤ (compX1 (widen c) ut).toInt ∧ (compX1 (widen c) ut).toInt < 65536 :=
    compX1_toInt c ut ▸ Reference.wrap_ediv_bounds _
  have hd := compDivisor_toInt c (compX1 (widen c) ut)
  have hmd := half_toInt_bounds c.md
  rw [Reference.wrap_of_inS32 ⟨by omega, by omega⟩] at hd
  refine ⟨by omega, by omega, fun x2 hx2 => ?_, ?_, ?_⟩
  · obtain ⟨-, he⟩ | ⟨-, q, hq, hnum⟩ := compX2_cases c (compX1 (widen c) ut)
    · exact absurd (he.symm.trans hx2) (by simp)
    · obtain rfl : q = x2 := Except.ok.inj (hq.symm.trans hx2)
      have := half_toInt_bounds c.mc
      exact hnum ▸ Reference.tdiv_bounds (by omega) (by omega) _
  · have hx1 := Reference.wrap_ediv_bounds (c.ac3.toInt * b6.toInt) (n := 8192) (m := 262144)
    have hx2 := Reference.wrap_ediv_bounds (c.b1.toInt * (compSquare b6).toInt) (n := 65536) (m := 32768)
    rw [compX3Step7_toInt, Reference.wrap_of_inS32 (z := _ / _ + _ / _) ⟨by omega, by omega⟩,
      Reference.wrap_of_inS32 (z := _ + 2) ⟨by omega, by omega⟩]
    omega
  · have hb4 := compB4_toNat c x3
    have := Reference.unsigned_bounds (c.ac4.toNat * unsigned (wrap (x3.toInt + 32768)))
    omega

end Sys2Proof.Machine
end

section
/-! The integer pipeline as equations (R85 to R96): one per assignment of `Reference.trace`, which are what its users need of
it; then the operations that cannot overflow, and the pipeline without any overflow (R99). -/

namespace Sys2Proof.Reference

open Sys2Proof.Machine (Calib half_toInt_bounds)

/-- The assignments of R85 to R96: `r` holds the variables of the pipeline with `norm` after every signed operation. A trace
follows them exactly when it is `trace norm c ut up` (`trace_follows`, `Trace.Follows.eq_trace`). -/
structure Trace.Follows (r : Trace) (norm : Int → Int) (c : Calib) (ut up : Int) : Prop where
  x1Step1 : r.x1Step1 = norm (norm (ut - c.ac6.toNat) * c.ac5.toNat) / 32768
  d : r.d = norm (r.x1Step1 + c.md.toInt)
  x2Step2 : r.x2Step2 = (norm (c.mc.toInt * 2048)).tdiv r.d
  b5 : r.b5 = norm (r.x1Step1 + r.x2Step2)
  t : r.t = norm (r.b5 + 8) / 16
  b6 : r.b6 = norm (r.b5 - 4000)
  square : r.square = norm (r.b6 * r.b6) / 4096
  x1Step5 : r.x1Step5 = norm (c.b2.toInt * r.square) / 2048
  x2Step5 : r.x2Step5 = norm (c.ac2.toInt * r.b6) / 2048
  x3Step5 : r.x3Step5 = norm (r.x1Step5 + r.x2Step5)
  b3 : r.b3 = (norm (norm (norm (c.ac1.toInt * 4) + r.x3Step5) + 2)).tdiv 4
  x1Step7 : r.x1Step7 = norm (c.ac3.toInt * r.b6) / 8192
  x2Step7 : r.x2Step7 = norm (c.b1.toInt * r.square) / 65536
  x3Step7 : r.x3Step7 = norm (norm (r.x1Step7 + r.x2Step7) + 2) / 4
  b4 : r.b4 = unsigned (c.ac4.toNat * unsigned (norm (r.x3Step7 + 32768))) / 32768
  b7 : r.b7 = unsigned (unsigned (unsigned up - unsigned r.b3) * 50000)
  q : r.q = if r.b7 < 2147483648 then unsigned (r.b7 * 2) / r.b4 else unsigned (r.b7 / r.b4 * 2)
  p : r.p = wrap r.q
  x1Step11 : r.x1Step11 = norm (norm (r.p / 256 * (r.p / 256)) * 3038) / 65536
  x2Step11 : r.x2Step11 = norm (-7357 * r.p) / 65536
  pressure : r.pressure = norm (r.p + norm (norm (r.x1Step11 + r.x2Step11) + 3791) / 16)

theorem trace_follows (norm : Int → Int) (c : Calib) (ut up : Int) : (trace norm c ut up).Follows norm c ut up := by
  constructor <;> rfl

/-- The assignments determine the trace. -/
theorem Trace.Follows.eq_trace {r : Trace} {norm : Int → Int} {c : Calib} {ut up : Int} (f : r.Follows norm c ut up) :
    r = trace norm c ut up := by
  cases r
  cases f
  simp only at *
  subst_vars
  rfl

/-- The dividend `MC << 11` of step 2 fits (R82). -/
theorem wrap_half_mul_2048 (h : Half) : wrap (h.toInt * 2048) = h.toInt * 2048 := by
  have := half_toInt_bounds h
  exact wrap_of_inS32 ⟨by omega, by omega⟩

/-- X2 of step 2 is no larger than its dividend `MC << 11` (R86). -/
theorem Trace.Follows.x2Step2_bounds {r : Trace} {c : Calib} {ut up : Int} (f : r.Follows wrap c ut up) :
    -67108864 ≤ r.x2Step2 ∧ r.x2Step2 ≤ 67108864 := by
  have := half_toInt_bounds c.mc
  rw [f.x2Step2, wrap_half_mul_2048]
  exact tdiv_bounds (by omega) (by omega) _

/-- Settles O36: each summand is a coefficient or a right shift of an `s32`, each of these is small, and so is X2 of step
2. -/
theorem unlistedOperationsNeverOverflow : Obligations.UnlistedOperationsNeverOverflow := by
  unfold Obligations.UnlistedOperationsNeverOverflow
  intro c ut up hut0 hut _ _
  have f := trace_follows wrap c ut up
  rw [neverOverflowing]
  generalize trace wrap c ut up = r at f
  have hac6 := c.ac6.isLt
  have hmd := half_toInt_bounds c.md
  have hac1 := half_toInt_bounds c.ac1
  have := half_toInt_bounds c.mc
  have hx1 : -65536 ≤ r.x1Step1 ∧ r.x1Step1 < 65536 := f.x1Step1 ▸ wrap_ediv_bounds _
  have hx2 := f.x2Step2_bounds
  have hb5 : r.b5 = r.x1Step1 + r.x2Step2 := f.b5.trans (wrap_of_inS32 ⟨by omega, by omega⟩)
  have hx1Step5 : -1048576 ≤ r.x1Step5 ∧ r.x1Step5 < 1048576 := f.x1Step5 ▸ wrap_ediv_bounds _
  have hx2Step5 : -1048576 ≤ r.x2Step5 ∧ r.x2Step5 < 1048576 := f.x2Step5 ▸ wrap_ediv_bounds _
  have hx3Step5 : r.x3Step5 = r.x1Step5 + r.x2Step5 := f.x3Step5.trans (wrap_of_inS32 ⟨by omega, by omega⟩)
  have hx1Step7 : -262144 ≤ r.x1Step7 ∧ r.x1Step7 < 262144 := f.x1Step7 ▸ wrap_ediv_bounds _
  have hx2Step7 : -32768 ≤ r.x2Step7 ∧ r.x2Step7 < 32768 := f.x2Step7 ▸ wrap_ediv_bounds _
  have hx3Step7 : -536870912 ≤ r.x3Step7 ∧ r.x3Step7 < 536870912 := f.x3Step7 ▸ wrap_ediv_bounds _
  have hx1Step11 : -32768 ≤ r.x1Step11 ∧ r.x1Step11 < 32768 := f.x1Step11 ▸ wrap_ediv_bounds _
  have hx2Step11 : -32768 ≤ r.x2Step11 ∧ r.x2Step11 < 32768 := f.x2Step11 ▸ wrap_ediv_bounds _
  have hscaled : wrap (c.ac1.toInt * 4) = c.ac1.toInt * 4 := wrap_of_inS32 ⟨by omega, by omega⟩
  have hsum6 : wrap (c.ac1.toInt * 4 + r.x3Step5) = c.ac1.toInt * 4 + r.x3Step5 :=
    wrap_of_inS32 ⟨by omega, by omega⟩
  have hsum7 : wrap (r.x1Step7 + r.x2Step7) = r.x1Step7 + r.x2Step7 := wrap_of_inS32 ⟨by omega, by omega⟩
  have hsum11 : wrap (r.x1Step11 + r.x2Step11) = r.x1Step11 + r.x2Step11 := wrap_of_inS32 ⟨by omega, by omega⟩
  simp only [List.forall_mem_cons, hscaled, hsum6, hsum7, hsum11, inS32, List.not_mem_nil, false_imp_iff,
    implies_true, and_true]
  and_intros <;> omega

/-- Without overflow the wrapped pipeline is the exact one (R81, R99): each `wrap` keeps what it is given. -/
theorem NoSignedOverflow.trace_id {c : Calib} {ut up : Int} (h : NoSignedOverflow c ut up) :
    trace id c ut up = trace wrap c ut up := by
  have f := trace_follows wrap c ut up
  simp only [NoSignedOverflow, overflowing, neverOverflowing, List.forall_mem_cons, ← wrap_eq_self_iff] at h
  generalize trace wrap c ut up = r at f h
  obtain ⟨⟨hx1, hsquare, hx1Step5, hx2Step5, hx1Step7, hx2Step7, hp8, hx1Step11, hx2Step11, hpressure, -⟩,
    hdiff, hd, hmc, hb5, ht, hb6, hx3Step5, hac1, hb3, hb3round, hx3Step7, hx3Step7round, hb4, hsum, hsumround, -⟩ := h
  refine (Trace.Follows.eq_trace ?_).symm
  exact
    { f with
      x1Step1 := by rw [f.x1Step1, hx1, hdiff]; rfl
      d := by rw [f.d, hd]; rfl
      x2Step2 := by rw [f.x2Step2, hmc]; rfl
      b5 := by rw [f.b5, hb5]; rfl
      t := by rw [f.t, ht]; rfl
      b6 := by rw [f.b6, hb6]; rfl
      square := by rw [f.square, hsquare]; rfl
      x1Step5 := by rw [f.x1Step5, hx1Step5]; rfl
      x2Step5 := by rw [f.x2Step5, hx2Step5]; rfl
      x3Step5 := by rw [f.x3Step5, hx3Step5]; rfl
      b3 := by rw [f.b3, hb3round, hb3, hac1]; rfl
      x1Step7 := by rw [f.x1Step7, hx1Step7]; rfl
      x2Step7 := by rw [f.x2Step7, hx2Step7]; rfl
      x3Step7 := by rw [f.x3Step7, hx3Step7round, hx3Step7]; rfl
      b4 := by rw [f.b4, hb4]; rfl
      x1Step11 := by rw [f.x1Step11, hx1Step11, hp8]; rfl
      x2Step11 := by rw [f.x2Step11, hx2Step11]; rfl
      pressure := by rw [f.pressure, hpressure, hsumround, hsum]; rfl }

end Sys2Proof.Reference
end

section
/-! COMP against the integer pipeline (R79, R97, R98): the machine's words are the variables of `Reference.trace`, stage by
stage, and COMP stages what they give. -/

namespace Sys2Proof.Machine

open Reference (wrap)

/-- A pipeline goes on from a step that gives a value. -/
@[simp] theorem ok_bind {α β : Type} (a : α) (f : α → Except CompStop β) : (Except.ok a >>= f) = f a :=
  rfl

/-- A pipeline ends at a step that stops it (R97). -/
@[simp] theorem error_bind {α β : Type} (e : CompStop) (f : α → Except CompStop β) :
    (Except.error e >>= f) = Except.error e :=
  rfl

/-- Steps 4 to 12: the hazard exactly at `B4 = 0`, else the pressure. -/
theorem pressureOf_refines {c : Calib} {up b5 : Word} {ut : Int} {r : Reference.Trace} (f : r.Follows wrap c ut up.toInt)
    (hb5 : b5.toInt = r.b5) :
    (r.b4 = 0 ∧ pressureOf (widen c) up b5 = .error .hazard) ∨
      (r.b4 ≠ 0 ∧ ∃ p, pressureOf (widen c) up b5 = .ok p ∧ p.toInt = r.pressure) := by
  have hb6 : (compB6 b5).toInt = r.b6 := by rw [compB6_toInt, hb5, f.b6]
  have hsquare : (compSquare (compB6 b5)).toInt = r.square := by rw [compSquare_toInt, hb6, f.square]
  have hx3Step5 : (compX3Step5 (widen c) (compB6 b5)).toInt = r.x3Step5 := by
    rw [compX3Step5_toInt, hb6, hsquare, f.x3Step5, f.x1Step5, f.x2Step5]
  have hx3Step7 : (compX3Step7 (widen c) (compB6 b5)).toInt = r.x3Step7 := by
    rw [compX3Step7_toInt, hb6, hsquare, f.x3Step7, f.x1Step7, f.x2Step7]
  have hb4 : ((compB4 (widen c) (compX3Step7 (widen c) (compB6 b5))).toNat : Int) = r.b4 := by
    rw [compB4_toNat, hx3Step7, f.b4]
  obtain ⟨b3, hokB3, hb3⟩ := compB3_eq_ok c (compX3Step5 (widen c) (compB6 b5))
  rw [hx3Step5, ← f.b3] at hb3
  have hb7 : ((compB7 up b3).toNat : Int) = r.b7 := by rw [compB7_toNat, hb3, f.b7]
  by_cases hzero : r.b4 = 0
  · have hword : compB4 (widen c) (compX3Step7 (widen c) (compB6 b5)) = 0#32 := toNat_eq_zero_iff.1 (by omega)
    exact .inl ⟨hzero, by simp [pressureOf, hokB3, hword, compP_of_zero]⟩
  · have hword : compB4 (widen c) (compX3Step7 (widen c) (compB6 b5)) ≠ 0#32 :=
      fun h => hzero (by rw [← hb4, h]; rfl)
    obtain ⟨p, hokP, hp⟩ := compP_eq_ok hword (compB7 up b3)
    rw [hb7, hb4, ← f.q, ← f.p] at hp
    refine .inr ⟨hzero, compPressure p, by simp [pressureOf, hokB3, hokP, pure, Except.pure], ?_⟩
    rw [compPressure_toInt, compX1Step11_toInt, compX2Step11_toInt, hp, f.pressure, f.x1Step11, f.x2Step11]

/-- The machine's pipeline and the integer one agree on every input (R79, R97). -/
theorem compensate_refines (c : Calib) (ut up : Word) :
    (Reference.result wrap c ut.toInt up.toInt = none ∧ compensate c ut up = .error .hazard) ∨
      ∃ t p : Word, Reference.result wrap c ut.toInt up.toInt = some (t.toInt, p.toInt) ∧
        compensate c ut up = .ok (t, p) := by
  have f := Reference.trace_follows wrap c ut.toInt up.toInt
  rw [Reference.result]
  generalize Reference.trace wrap c ut.toInt up.toInt = r at f
  have hx1 : (compX1 (widen c) ut).toInt = r.x1Step1 := by rw [compX1_toInt, f.x1Step1]
  have hd : (compDivisor (widen c) (compX1 (widen c) ut)).toInt = r.d := by rw [compDivisor_toInt, hx1, f.d]
  obtain ⟨hzero, hstop⟩ | ⟨hzero, x2, hokX2, hx2⟩ := compX2_cases c (compX1 (widen c) ut)
  · exact .inl ⟨if_pos (.inl (hd ▸ hzero)), by simp [compensate, hstop]⟩
  rw [hd] at hzero
  rw [hd, ← Reference.wrap_half_mul_2048, ← f.x2Step2] at hx2
  have hb5 : (compB5 (compX1 (widen c) ut) x2).toInt = r.b5 := by rw [compB5_toInt, hx1, hx2, f.b5]
  obtain ⟨hb4, hstop⟩ | ⟨hb4, p, hokP, hp⟩ := pressureOf_refines f hb5
  · exact .inl ⟨if_pos (.inr hb4), by simp [compensate, hokX2, hstop]⟩
  · refine .inr ⟨compT (compB5 (compX1 (widen c) ut) x2), p, ?_, ?_⟩
    · rw [if_neg (not_or.2 ⟨hzero, hb4⟩), compT_toInt, hb5, hp, f.t]
    · simp [compensate, hokX2, hokP, pure, Except.pure]

/-- COMP stages the results of a pipeline that completes (R98). -/
theorem execComp_of_ok {s : State} {t p : Word} (hcal : s.calValid = true)
    (h : compensate s.cal s.ut s.up = .ok (t, p)) : execComp s = .next { s with tn := t, pn := p, seq := .upd } := by
  rw [execComp, if_pos hcal, h]

/-- COMP aborts at a zero divisor (R97). -/
theorem execComp_of_hazard {s : State} (hcal : s.calValid = true) (h : compensate s.cal s.ut s.up = .error .hazard) :
    execComp s = .next (s.abort .arithmeticHazard) := by
  rw [execComp, if_pos hcal, h]

/-- Settles O29: COMP stages what the pipeline gives (`compensate_refines`). -/
theorem compRefinesTheIntegerPipeline : Obligations.CompRefinesTheIntegerPipeline := by
  unfold Obligations.CompRefinesTheIntegerPipeline
  intro s hcal
  obtain ⟨hnone, hc⟩ | ⟨v, w, hsome, hc⟩ := compensate_refines s.cal s.ut s.up
  · exact ⟨fun t p h => absurd (hnone.symm.trans h) (by simp), fun _ => execComp_of_hazard hcal hc⟩
  · refine ⟨fun t p h => ?_, fun h => absurd (h.symm.trans hsome) (by simp)⟩
    obtain ⟨rfl, rfl⟩ : v.toInt = t ∧ w.toInt = p := by simpa using hsome.symm.trans h
    exact ⟨{ s with tn := v, pn := w, seq := .upd }, execComp_of_ok hcal hc, rfl, rfl, rfl⟩

/-- Settles O38: without overflow the exact pipeline is the wrapped one (`Reference.NoSignedOverflow.trace_id`). -/
theorem compIsExactWithoutOverflow : Obligations.CompIsExactWithoutOverflow := by
  unfold Obligations.CompIsExactWithoutOverflow
  intro s t p hcal hexact hresult
  rw [Reference.result, hexact.trace_id] at hresult
  obtain ⟨u, hu, ht, hp, -⟩ := (compRefinesTheIntegerPipeline s hcal).1 t p hresult
  exact ⟨u, hu, ht, hp⟩

/-- COMP does not read MB (R65, R79): it is not among the widened coefficients. -/
theorem compensate_mb (c : Calib) (mb : Half) (ut up : Word) :
    compensate { c with mb := mb } ut up = compensate c ut up :=
  rfl

/-- Settles O31: COMP's outcome is a function of `compensate`, which always completes or meets the hazard. -/
theorem compIgnoresAllButItsOperands : Obligations.CompIgnoresAllButItsOperands := by
  unfold Obligations.CompIgnoresAllButItsOperands
  intro s s' mb hcal hcal' hut hup hmb
  have hsame : compensate s'.cal s'.ut s'.up = compensate s.cal s.ut s.up := by rw [hmb, hut, hup, compensate_mb]
  obtain ⟨-, hc⟩ | ⟨t, p, -, hc⟩ := compensate_refines s.cal s.ut s.up
  · exact ⟨_, _, execComp_of_hazard hcal hc, execComp_of_hazard hcal' (hsame.trans hc), rfl, fun h => nomatch h⟩
  · exact ⟨_, _, execComp_of_ok hcal hc, execComp_of_ok hcal' (hsame.trans hc), rfl, fun _ => ⟨rfl, rfl⟩⟩

end Sys2Proof.Machine
end

section
/-! The host's moves on the two ports (R23, R102 to R107): the acceptance step of each command, an offer to a busy CSB, a host
read, and UPD. -/

namespace Sys2Proof.Machine

/-! The commands at rest (R103, R104, R105). -/

/-- BUSY is 0 at IDLE (R20). -/
theorem State.busy_of_idle {s : State} (h : s.seq = .idle) : s.busy = false := by
  simp [State.busy, h]

/-- BUSY is 1 at every other phase (R20). -/
theorem State.busy_of_ne_idle {s : State} (h : s.seq ≠ .idle) : s.busy = true := by
  simp [State.busy, h]

theorem execInit_of_idle {s : State} (h : s.seq = .idle) : execInit s = .next (s.acceptCommand .calrd) := by
  rw [execInit, if_neg (by simp [State.busy_of_idle h])]

theorem execRefresh_of_loaded {s : State} (h : s.seq = .idle) (hcal : s.calValid = true) :
    execRefresh s = .next (s.acceptCommand .tcmd) := by
  rw [execRefresh, if_neg (by simp [State.busy_of_idle h]), if_pos hcal]

theorem execRefresh_of_unloaded {s : State} (h : s.seq = .idle) (hcal : s.calValid = false) :
    execRefresh s = .next s.rejectCommand := by
  rw [execRefresh, if_neg (by simp [State.busy_of_idle h]), if_neg (by simp [hcal])]

theorem execReserved_of_idle {s : State} (h : s.seq = .idle) : execReserved s = .next s.rejectCommand := by
  rw [execReserved, if_neg (by simp [State.busy_of_idle h])]

/-- Settles O14: INIT's one test is BUSY, and what is left is `State.acceptCommand`. -/
theorem initIsAcceptedWhenIdle : Obligations.InitIsAcceptedWhenIdle := by
  unfold Obligations.InitIsAcceptedWhenIdle
  exact fun _ hidle => execInit_of_idle hidle

/-- Settles O15: REFRESH tests BUSY and then CAL_VALID. -/
theorem refreshIsAcceptedOnlyWithCoefficients : Obligations.RefreshIsAcceptedOnlyWithCoefficients := by
  unfold Obligations.RefreshIsAcceptedOnlyWithCoefficients
  exact fun _ hidle => ⟨execRefresh_of_loaded hidle, execRefresh_of_unloaded hidle⟩

/-- A reserved code on the port of an idle CSB is rejected by the sequencer's turn (R105). -/
theorem turn_of_reserved {s : State} (hidle : s.seq = .idle) (hvalid : s.cmdValid = true) (hinit : s.cmd ≠ 0x01#8)
    (hrefresh : s.cmd ≠ 0x02#8) : turn s = .next s.rejectCommand := by
  rw [turn_idle hidle, if_pos hvalid, if_neg hinit, if_neg hrefresh, execReserved_of_idle hidle]

/-- Settles O16: offered or waiting, the reserved code is on the port when the turn comes (`turn_of_reserved`). -/
theorem reservedCodeIsConsumedAndRejected : Obligations.ReservedCodeIsConsumedAndRejected := by
  unfold Obligations.ReservedCodeIsConsumedAndRejected
  refine ⟨fun s code rest hidle hinit hrefresh hscript => ?offered, fun s hidle hvalid hinit hrefresh =>
    ⟨fun hscript => ?own, fun rest hscript => ?run⟩⟩
  case offered => exact (step_of_offer_at_idle hscript hidle).trans (turn_of_reserved hidle rfl hinit hrefresh)
  case own => exact (step_of_script_nil hscript).trans (turn_of_reserved hidle hvalid hinit hrefresh)
  case run => exact (step_of_run hscript).trans (turn_of_reserved hidle hvalid hinit hrefresh)

/-! The command port while BUSY (R102). -/

theorem step_of_offer_at_busy {s : State} {code : Byte} {rest : List Event} (h : s.script = .offer code :: rest)
    (hbusy : s.seq ≠ .idle) : step s = .next (State.offered code { s with script := rest }) := by
  simp [step, h, perform, State.busy, hbusy]

/-- Only a turn at rest takes an offer. -/
theorem TurnTo.port_kept_of_busy {s t : State} (h : TurnTo s t) (hbusy : s.seq ≠ .idle) :
    t.cmdValid = s.cmdValid ∧ t.cmd = s.cmd := by
  cases h
  case rest hidle _ | acceptInit hidle _ _ | acceptRefresh hidle _ _ _ | rejectRefresh hidle _ _ _
      | rejectReserved hidle _ _ _ => exact absurd hidle hbusy
  all_goals exact ⟨by simp, by simp⟩

/-- Settles O17: of a step's kinds only an offer and a withdrawal write the port, and a turn takes an offer only at rest. -/
theorem offerToABusyBlockWaits : Obligations.OfferToABusyBlockWaits := by
  unfold Obligations.OfferToABusyBlockWaits
  refine ⟨fun s code rest hbusy hscript => step_of_offer_at_busy hscript hbusy, fun s hbusy => ?commands,
    fun s t hbusy hoffer hwithdraw hstep => ?port⟩
  case commands =>
    have hb := State.busy_of_ne_idle hbusy
    exact ⟨congrArg Host.Outcome.next (if_pos hb), congrArg Host.Outcome.next (if_pos hb)⟩
  case port =>
    cases step_next hstep
    case offerHeld code rest hscript _ | offerTaken code rest hscript _ _ => exact absurd hscript (hoffer code rest)
    case withdraw rest hscript => exact absurd hscript (hwithdraw rest)
    case rst | read | ignored => exact ⟨rfl, rfl⟩
    case tick => exact ⟨State.ticked_cmdValid _, State.ticked_cmd _⟩
    case answered hturn | run hturn => exact hturn.port_kept_of_busy hbusy

/-! A host read and UPD (R23, R106, R107). -/

theorem step_of_read {s : State} {rest : List Event} (h : s.script = .read :: rest) :
    step s = .next (State.hostRead { s with script := rest }) := by
  rw [step, h]; rfl

/-- With coefficients loaded a view of H5 .. H15 is the widened coefficient (R23). -/
theorem State.calView_of_loaded {s : State} (i : Nat) (value : Word) (h : s.calValid = true) : s.calView i value = value :=
  if_pos h

/-- Settles O5: what is read is `State.hostViews`, and widening keeps the number of a coefficient of either type. -/
theorem hostReadReturnsOneStateUndisturbed : Obligations.HostReadReturnsOneStateUndisturbed := by
  unfold Obligations.HostReadReturnsOneStateUndisturbed
  intro s rest hscript
  refine ⟨s.hostViews, step_of_read hscript, rfl, rfl, rfl, rfl, rfl, fun hcal => ?_⟩
  simp only [State.hostViews, State.calView_of_loaded _ _ hcal, sext32_toInt, zext32_toInt, and_self]

/-- Settles O39: UPD's meaning is this one update. -/
theorem updReplacesTheReadingWhole : Obligations.UpdReplacesTheReadingWhole :=
  fun _ => rfl

end Sys2Proof.Machine
end

section
/-! The steps that write STATE (R108). -/

namespace Sys2Proof.Machine

/-- The STATE a cycle starts from (R108). -/
theorem DevState.of_agrees_tcmd {d : DevState} (h : d.agrees .tcmd = true) :
    d = .calibrationLoaded ∨ d = .ready ∨ d = .error := by
  cases d
  case uninitialized | measuring => exact nomatch h
  case calibrationLoaded => exact .inl rfl
  case ready => exact .inr (.inl rfl)
  case error => exact .inr (.inr rfl)

/-- The rows of R108's table that a turn of the sequencer can be: all but the reset. -/
def State.TurnRow (s t : State) : Prop :=
  (s.seq = .calrd ∧ t.seq = .tcmd ∧ t.devState = .calibrationLoaded) ∨
  (s.seq = .tcmd ∧ t.seq = .twait ∧ t.devState = .measuring ∧
    (s.devState = .calibrationLoaded ∨ s.devState = .ready ∨ s.devState = .error)) ∨
  (s.seq = .upd ∧ t.seq = .idle ∧ t.devState = .ready ∧ s.devState = .measuring) ∨
  (s.seq.request?.isSome = true ∧ t.seq = .idle ∧ t.err = .ioError ∧ t.devState = .error) ∨
  (s.seq = .comp ∧ t.seq = .idle ∧ t.err = .arithmeticHazard ∧ t.devState = .error ∧ s.devState = .measuring)

/-- Where STATE agrees with SEQ, a turn leaves STATE or is a row of the table. -/
theorem TurnTo.devState_kept_or_row {s t : State} (h : TurnTo s t) (hagrees : s.devState.agrees s.seq = true) :
    t.devState = s.devState ∨ s.TurnRow t := by
  cases h
  case calrd hseq _ _ => exact .inr (.inl ⟨hseq, rfl, rfl⟩)
  case tcmd hseq _ => exact .inr (.inr (.inl ⟨hseq, rfl, rfl, DevState.of_agrees_tcmd (hseq ▸ hagrees)⟩))
  case upd hseq =>
    exact .inr (.inr (.inr (.inl ⟨hseq, rfl, rfl, DevState.eq_measuring hagrees (by rw [hseq]; rfl)⟩)))
  case failed hr _ => exact .inr (.inr (.inr (.inr (.inl ⟨by rw [hr]; rfl, rfl, rfl, rfl⟩))))
  case hazard hseq _ =>
    exact .inr (.inr (.inr (.inr (.inr ⟨hseq, rfl, rfl, rfl, DevState.eq_measuring hagrees (by rw [hseq]; rfl)⟩))))
  all_goals exact .inl (by simp)

/-- Settles O47: a reset is the table's first row, the environment's other moves leave STATE, and a turn is one of the other
rows, since the invariant makes STATE agree with SEQ. -/
theorem stateTransitionsAreTheTabled : Obligations.StateTransitionsAreTheTabled := by
  unfold Obligations.StateTransitionsAreTheTabled
  intro s t hinv hstep hchanged
  cases step_next hstep
  case rst rest hscript => exact .inl ⟨⟨rest, hscript⟩, rfl⟩
  case tick => exact absurd (State.ticked_devState _) hchanged
  case read | withdraw | offerHeld | ignored => exact absurd rfl hchanged
  case offerTaken hturn | answered hturn | run hturn =>
    exact .inr ((hturn.devState_kept_or_row hinv.state_agrees).resolve_left hchanged)

end Sys2Proof.Machine
end

section
/-! Whole commands (R58, R103, R104): the run of a measurement cycle in its parts, the temperature conversion, the pressure
conversion and the compensation, then REFRESH and INIT, which lead to one. -/

namespace Sys2Proof.Machine

/-! One step of a cycle. -/

/-- A transaction answered with nothing outstanding leaves its request in the record (R38; log 13). -/
theorem State.settle_answered_of_quiet {s : State} (hquiet : s.busReq = none ∧ s.busAns = none) (r : BusRequest)
    (a : BusAnswer) : (s.answered a).settle r = { s with requests := r :: s.requests } := by
  obtain ⟨hreq, hans⟩ := hquiet
  simp [State.settle_eq, State.answered, hreq, hans]

/-- The step of a bus phase whose transaction is answered with as many bytes as were asked for (R10). -/
theorem step_of_answer_done {s : State} {r : BusRequest} {onOk : List Byte → State → State} {bytes : List Byte}
    {rest : List Event} (hr : s.seq.request? = some r)
    (hturn : turn (State.answered (.ok bytes) { s with script := rest }) =
      transact r onOk (State.answered (.ok bytes) { s with script := rest }))
    (hquiet : s.busReq = none ∧ s.busAns = none) (hscript : s.script = .answer (.ok bytes) :: rest)
    (hlen : bytes.length = r.answerLength) :
    step s = .next (onOk bytes { s with script := rest, requests := r :: s.requests }) := by
  rw [step_of_answer_at_busPhase hscript (by rw [hr]; rfl), hturn, transact_of_ok rfl hlen]
  have hsettle := State.settle_answered_of_quiet (s := { s with script := rest }) hquiet r (.ok bytes)
  exact congrArg (Host.Outcome.next <| onOk bytes ·) hsettle

/-! A conversion wait, from its first tick to its end (R68, R71, R73). -/

/-- As many ticks as WAITCNT holds bring it to zero, and nothing else changes. -/
theorem run_ticks {n : Nat} {s : State} {rest : List Event} (hcnt : s.waitcnt.toNat = n)
    (hscript : s.script = List.replicate n .tick ++ rest) :
    Sys2Proof.core.run n s = .next { s with waitcnt := 0, script := rest } := by
  induction n generalizing s with
  | zero =>
    have hzero : s.waitcnt = 0 := BitVec.eq_of_toNat_eq hcnt
    rw [run_zero, ← hzero, ← show s.script = rest from hscript]
  | succ n ih =>
    have hless : (State.ticked { s with script := List.replicate n .tick ++ rest }).waitcnt.toNat = n := by
      rw [State.ticked_waitcnt, hcnt, Nat.add_sub_cancel]
    refine (run_succ (step_of_tick hscript)).trans ((ih hless (State.ticked_script _)).trans ?_)
    rw [State.ticked_eq]

theorem turn_of_ended_wait {s : State} (hwait : s.seq = .twait ∨ s.seq = .pwait) (hcnt : s.waitcnt = 0) :
    turn s = .next { s with seq := s.seq.successor } := by
  obtain hp | hp := hwait
  · rw [turn_twait hp, execTwait, State.waitThen_of_zero _ hcnt, hp, Phase.successor]
  · rw [turn_pwait hp, execPwait, State.waitThen_of_zero _ hcnt, hp, Phase.successor]

/-- A wait is left in the step after its last tick. -/
theorem run_wait {s : State} {rest : List Event} (hwait : s.seq = .twait ∨ s.seq = .pwait)
    (hscript : s.script = List.replicate s.waitcnt.toNat .tick ++ .run :: rest) :
    Sys2Proof.core.run (s.waitcnt.toNat + 1) s =
      .next { s with waitcnt := 0, seq := s.seq.successor, script := rest } := by
  have hend : step { s with waitcnt := 0, script := .run :: rest } = _ :=
    (step_of_run rfl).trans (turn_of_ended_wait hwait rfl)
  rw [run_add (run_ticks rfl hscript), run_succ hend, run_zero]

/-! The two conversions (R67 to R72). -/

/-- The environment's moves in a conversion: the command write is answered, `n` ticks come, and the read is answered with
`bytes`; then the moves `rest` (R58). -/
def conversionMoves (n : Nat) (bytes : List Byte) (rest : List Event) : List Event :=
  .answer (.ok []) :: (List.replicate n .tick ++ .run :: .answer (.ok bytes) :: rest)

/-- TCMD, TWAIT and TREAD: the sample is in UT, and STATE is Measuring. -/
theorem run_temperature {s : State} {a0 a1 : Byte} {rest : List Event} (hseq : s.seq = .tcmd)
    (hquiet : s.busReq = none ∧ s.busAns = none)
    (hscript : s.script = conversionMoves s.params.nWait.toNat [a0, a1] rest) :
    Sys2Proof.core.run (s.params.nWait.toNat + 3) s =
      .next { s with ut := rawTemperature [a0, a1], seq := .pcmd, devState := .measuring, waitcnt := 0,
                     requests := .rdT :: .wrTemp :: s.requests, script := rest } := by
  refine (run_succ (step_of_answer_done (by rw [hseq]; rfl) (turn_tcmd hseq) hquiet hscript rfl)).trans ?_
  refine (run_add (m := s.params.nWait.toNat + 1) (n := 1) (run_wait (.inl rfl) rfl)).trans ?_
  exact run_succ (step_of_answer_done rfl (turn_tread rfl) hquiet rfl rfl)

/-- PCMD, PWAIT and PREAD: the sample is in UP. -/
theorem run_pressure {s : State} {b0 b1 b2 : Byte} {rest : List Event} (hseq : s.seq = .pcmd)
    (hquiet : s.busReq = none ∧ s.busAns = none)
    (hscript : s.script = conversionMoves s.params.nWait.toNat [b0, b1, b2] rest) :
    Sys2Proof.core.run (s.params.nWait.toNat + 3) s =
      .next { s with up := rawPressure [b0, b1, b2], seq := .comp, waitcnt := 0,
                     requests := .rdP :: .wrPres :: s.requests, script := rest } := by
  refine (run_succ (step_of_answer_done (by rw [hseq]; rfl) (turn_pcmd hseq) hquiet hscript rfl)).trans ?_
  refine (run_add (m := s.params.nWait.toNat + 1) (n := 1) (run_wait (.inr rfl) rfl)).trans ?_
  exact run_succ (step_of_answer_done rfl (turn_pread rfl) hquiet rfl rfl)

/-- From TCMD to COMP, with every transaction answered and N_WAIT ticks in each wait (R58). -/
theorem run_samples {s : State} {a0 a1 b0 b1 b2 : Byte} {rest : List Event} (hseq : s.seq = .tcmd)
    (hquiet : s.busReq = none ∧ s.busAns = none)
    (hscript : s.script = conversionMoves s.params.nWait.toNat [a0, a1]
      (conversionMoves s.params.nWait.toNat [b0, b1, b2] rest)) :
    Sys2Proof.core.run (s.params.nWait.toNat + 3 + (s.params.nWait.toNat + 3)) s =
      .next { s with ut := rawTemperature [a0, a1], up := rawPressure [b0, b1, b2], seq := .comp,
                     devState := .measuring, waitcnt := 0,
                     requests := [.rdP, .wrPres, .rdT, .wrTemp] ++ s.requests, script := rest } := by
  rw [run_add (run_temperature hseq hquiet hscript)]
  exact run_pressure rfl hquiet rfl

/-! COMP and what follows it (R97, R98, R106). -/

/-- COMP, then UPD: the pipeline's results are the reading. -/
theorem run_reading {s : State} {t p : Word} {rest : List Event} (hseq : s.seq = .comp) (hcal : s.calValid = true)
    (hscript : s.script = .run :: .run :: rest) (hresult : compensate s.cal s.ut s.up = .ok (t, p)) :
    Sys2Proof.core.run 2 s =
      .next { s with tn := t, pn := p, temp := t, press := p, dataValid := true, devState := .ready, seq := .idle,
                     script := rest } := by
  have hcomp := (turn_comp (s := { s with script := .run :: rest }) hseq).trans (execComp_of_ok hcal hresult)
  refine (run_succ ((step_of_run hscript).trans hcomp)).trans ?_
  exact run_succ ((step_of_run rfl).trans (turn_upd rfl))

/-- COMP at a zero divisor, then a turn at rest with nothing offered: the abort, and the reading as before. -/
theorem run_hazard {s : State} {rest : List Event} (hseq : s.seq = .comp) (hcal : s.calValid = true)
    (hnoOffer : s.cmdValid = false) (hscript : s.script = .run :: .run :: rest)
    (hresult : compensate s.cal s.ut s.up = .error .hazard) :
    Sys2Proof.core.run 2 s =
      .next { s with err := .arithmeticHazard, devState := .error, seq := .idle, script := rest } := by
  have hcomp := (turn_comp (s := { s with script := .run :: rest }) hseq).trans (execComp_of_hazard hcal hresult)
  refine (run_succ ((step_of_run hscript).trans hcomp)).trans ?_
  exact run_succ ((step_of_run rfl).trans ((turn_idle rfl).trans (if_neg (by simp [hnoOffer]))))

/-! The whole cycle, from TCMD to rest. -/

/-- What a cycle that starts in `s` with the samples `rawT` and `rawP` to come, and leaves the moves `rest`, delivers in `u`
(R58, R97, R104, R106). -/
structure State.Measured (s : State) (rawT rawP : Int) (rest : List Event) (u : State) : Prop where
  seq : u.seq = .idle
  cal : u.cal = s.cal
  calValid : u.calValid = true
  ut : u.ut.toInt = rawT
  up : u.up.toInt = rawP
  requests : u.requests = [.rdP, .wrPres, .rdT, .wrTemp] ++ s.requests
  script : u.script = rest
  reading : ∀ t p, Reference.result Reference.wrap s.cal rawT rawP = some (t, p) →
    u.temp.toInt = t ∧ u.press.toInt = p ∧ u.dataValid = true ∧ u.devState = .ready ∧ u.err = .none
  hazard : Reference.result Reference.wrap s.cal rawT rawP = none →
    u.snapshot = s.snapshot ∧ u.devState = .error ∧ u.err = .arithmeticHazard

/-- A run that has reached TCMD measures, when from there on every transaction is answered and N_WAIT ticks come in each
wait. -/
theorem run_cycle {k : Nat} {s₀ s : State} {a0 a1 b0 b1 b2 : Byte} {rest : List Event}
    (hstart : Sys2Proof.core.run k s₀ = .next s) (hseq : s.seq = .tcmd) (hcal : s.calValid = true)
    (herr : s.err = .none) (hnoOffer : s.cmdValid = false) (hquiet : s.busReq = none ∧ s.busAns = none)
    (hscript : s.script = conversionMoves s.params.nWait.toNat [a0, a1]
      (conversionMoves s.params.nWait.toNat [b0, b1, b2] (.run :: .run :: rest))) :
    ∃ u, Sys2Proof.core.run (k + (8 + 2 * s.params.nWait.toNat)) s₀ = .next u ∧
      s.Measured (a0.toNat * 256 + a1.toNat) (b0.toNat * 256 + b1.toNat) rest u := by
  have hut : (rawTemperature [a0, a1]).toInt = a0.toNat * 256 + a1.toNat := rawTemperature_toInt [a0, a1]
  have hup : (rawPressure [b0, b1, b2]).toInt = b0.toNat * 256 + b1.toNat := rawPressure_toInt [b0, b1, b2]
  have hsteps : 8 + 2 * s.params.nWait.toNat = s.params.nWait.toNat + 3 + (s.params.nWait.toNat + 3) + 2 := by omega
  rw [run_add hstart, hsteps, run_add (run_samples hseq hquiet hscript)]
  obtain ⟨hnone, hc⟩ | ⟨t, p, hsome, hc⟩ :=
    compensate_refines s.cal (rawTemperature [a0, a1]) (rawPressure [b0, b1, b2])
  · rw [hut, hup] at hnone
    refine ⟨_, run_hazard rfl hcal hnoOffer rfl hc, ?_⟩
    exact {
      seq := rfl, cal := rfl, calValid := hcal, ut := hut, up := hup, requests := rfl, script := rfl
      reading := fun t p hsome => absurd (hnone.symm.trans hsome) (by simp)
      hazard := fun _ => ⟨rfl, rfl, rfl⟩ }
  · rw [hut, hup] at hsome
    refine ⟨_, run_reading rfl hcal rfl hc, ?_⟩
    exact {
      seq := rfl, cal := rfl, calValid := hcal, ut := hut, up := hup, requests := rfl, script := rfl
      reading := fun t' p' hsome' => by
        obtain ⟨rfl, rfl⟩ : t.toInt = t' ∧ p.toInt = p' := by simpa using hsome.symm.trans hsome'
        exact ⟨rfl, rfl, rfl, rfl, herr⟩
      hazard := fun hnone => absurd (hnone.symm.trans hsome) (by simp) }

/-! The commands. -/

/-- An idle CSB with coefficients accepts an offered REFRESH in the same step (R102, R104). -/
theorem step_of_offer_refresh {s : State} {rest : List Event} (hidle : s.seq = .idle) (hcal : s.calValid = true)
    (h : s.script = .offer 0x02#8 :: rest) :
    step s = .next ((State.offered 0x02#8 { s with script := rest }).acceptCommand .tcmd) := by
  rw [step_of_offer_at_idle h hidle, turn_idle (s := State.offered 0x02#8 { s with script := rest }) hidle]
  exact execRefresh_of_loaded hidle hcal

/-- An INIT whose block is read: the offer is accepted, and CALRD loads the coefficients (R60, R103). -/
theorem run_load {s : State} {block : List Byte} {rest : List Event} (hidle : s.seq = .idle)
    (hquiet : s.busReq = none ∧ s.busAns = none) (hlen : block.length = 22)
    (hscript : s.script = .offer 0x01#8 :: .answer (.ok block) :: rest) :
    Sys2Proof.core.run 2 s =
      .next { s with cal := calibrationOf block, calValid := true, devState := .calibrationLoaded, err := .none,
                     seq := .tcmd, cmdValid := false, cmd := 0x01#8, requests := .rdCal :: s.requests,
                     script := rest } := by
  refine (run_succ (step_of_offer_init hidle hscript)).trans ?_
  exact run_succ (step_of_answer_done rfl (turn_calrd rfl) hquiet rfl hlen)

/-- Settles O53: the offer is accepted at TCMD, and the rest is a cycle (`run_cycle`). -/
theorem refreshDeliversTheCompensatedReading : Obligations.RefreshDeliversTheCompensatedReading := by
  unfold Obligations.RefreshDeliversTheCompensatedReading
  intro s a0 a1 b0 b1 b2 rest hidle hcal hreq hans hscript
  have hmoves : s.script = .offer 0x02#8 :: conversionMoves s.params.nWait.toNat [a0, a1]
      (conversionMoves s.params.nWait.toNat [b0, b1, b2] (.run :: .run :: rest)) := by
    simpa [conversionMoves] using hscript
  have haccept := (run_succ (step_of_offer_refresh hidle hcal hmoves)).trans (run_zero _)
  obtain ⟨u, hrun, hu⟩ := run_cycle haccept rfl hcal rfl rfl ⟨hreq, hans⟩ rfl
  have hsteps : 9 + 2 * s.params.nWait.toNat = 0 + 1 + (8 + 2 * s.params.nWait.toNat) := by omega
  refine ⟨u, ?_, hu.seq, hu.cal, hu.calValid, hu.ut, hu.up, hu.requests, hu.script, hu.reading, hu.hazard⟩
  rw [hsteps]
  exact hrun

/-- Settles O54: the offer is accepted at CALRD, the block is loaded there, and the rest is a cycle (`run_cycle`). -/
theorem initLoadsThenDeliversTheReading : Obligations.InitLoadsThenDeliversTheReading := by
  unfold Obligations.InitLoadsThenDeliversTheReading
  intro s block a0 a1 b0 b1 b2 rest hidle hreq hans hlen hscript
  have hmoves : s.script = .offer 0x01#8 :: .answer (.ok block) :: conversionMoves s.params.nWait.toNat [a0, a1]
      (conversionMoves s.params.nWait.toNat [b0, b1, b2] (.run :: .run :: rest)) := by
    simpa [conversionMoves] using hscript
  obtain ⟨u, hrun, hu⟩ := run_cycle (run_load hidle ⟨hreq, hans⟩ hlen hmoves) rfl rfl rfl rfl ⟨hreq, hans⟩ rfl
  have hsteps : 10 + 2 * s.params.nWait.toNat = 2 + (8 + 2 * s.params.nWait.toNat) := by omega
  refine ⟨u, ?_, hu.seq, hu.cal, hu.calValid, hu.ut, hu.up, hu.requests, hu.script, hu.reading, hu.hazard⟩
  rw [hsteps]
  exact hrun

end Sys2Proof.Machine
end

section
/-! Errors (spec/60_exceptions.md): the abort of a failed transaction, the steps behind each of the codes IoError and Rejected
(R111, R113 to R115), and the snapshot that no error touches (R106, R107, R115). -/

namespace Sys2Proof.Machine

/-! The abort of a failed transaction (R111, R114). -/

/-- Settles O21: each of the five is a transaction, whose failure settles the bus port and aborts. -/
theorem busFailureAbortsWithIoError : Obligations.BusFailureAbortsWithIoError := by
  unfold Obligations.BusFailureAbortsWithIoError
  intro i r s hmem hfailed
  obtain ⟨onOk, hexec⟩ := exec_microOp_eq_transact hmem
  rw [hexec, transact_of_failed hfailed, State.abort, State.settle_eq, State.requestsWith]

/-! What stands behind an error code (R111, R113). -/

/-- A turn that newly writes IoError is that of a bus phase whose answer is a failure, or short. -/
theorem TurnTo.failed_of_new_ioError {s t : State} (h : TurnTo s t) (hio : t.err = .ioError) (hnew : s.err ≠ .ioError) :
    ∃ r, s.seq.request? = some r ∧
      (s.busAns = some .fail ∨ ∃ bytes, s.busAns = some (.ok bytes) ∧ bytes.length < r.answerLength) := by
  cases h
  case failed r hr hfailed => exact ⟨r, hr, hfailed⟩
  case acceptInit | acceptRefresh | rejectRefresh | rejectReserved | hazard => exact nomatch hio
  all_goals exact absurd (by simpa using hio) hnew

/-- A turn that newly writes Rejected takes, at rest, a REFRESH without coefficients or a reserved code off the port, and does
nothing else (R104, R105). -/
theorem TurnTo.rejects_of_new_rejected {s t : State} (h : TurnTo s t) (hrejected : t.err = .rejected)
    (hnew : s.err ≠ .rejected) :
    s.seq = .idle ∧ s.cmdValid = true ∧
      (s.cmd = 0x02#8 ∧ s.calValid = false ∨ s.cmd ≠ 0x01#8 ∧ s.cmd ≠ 0x02#8) ∧ t = s.rejectCommand := by
  cases h
  case rejectRefresh hidle hvalid hcmd hcal => exact ⟨hidle, hvalid, .inl ⟨hcmd, hcal⟩, rfl⟩
  case rejectReserved hidle hvalid hinit hrefresh => exact ⟨hidle, hvalid, .inr ⟨hinit, hrefresh⟩, rfl⟩
  case acceptInit | acceptRefresh | failed | hazard => exact nomatch hrejected
  all_goals exact absurd (by simpa using hrejected) hnew

/-- Settles O49: no move of the environment writes an error code, and of the turns only the one of an answer has an answer on
the bus, which was not there before. -/
theorem ioErrorHasABusFailureBehindIt : Obligations.IoErrorHasABusFailureBehindIt := by
  unfold Obligations.IoErrorHasABusFailureBehindIt
  intro s t hquiet hstep hio hnew
  cases step_next hstep
  case rst => exact nomatch hio
  case tick => exact absurd ((State.ticked_err _).symm.trans hio) hnew
  case read | withdraw | offerHeld | ignored => exact absurd hio hnew
  case offerTaken hturn | run hturn =>
    obtain ⟨r, -, hfailed⟩ := hturn.failed_of_new_ioError hio hnew
    simp [hquiet] at hfailed
  case answered a rest _ hscript _ hturn =>
    obtain ⟨r, hr, hfailed⟩ := hturn.failed_of_new_ioError hio hnew
    exact ⟨a, rest, r, hscript, hr, by simpa using hfailed⟩

/-- Settles O18: no move of the environment writes an error code, and a turn rejects only at rest, the code just offered or the
one that was waiting on the port. -/
theorem rejectionHasExactlyTwoCauses : Obligations.RejectionHasExactlyTwoCauses := by
  unfold Obligations.RejectionHasExactlyTwoCauses
  intro s t hstep hrejected hnew
  cases step_next hstep
  case rst => exact nomatch hrejected
  case tick => exact absurd ((State.ticked_err _).symm.trans hrejected) hnew
  case read | withdraw | offerHeld | ignored => exact absurd hrejected hnew
  case offerTaken code rest hscript _ hturn =>
    obtain ⟨hidle, -, hcause, rfl⟩ := hturn.rejects_of_new_rejected hrejected hnew
    exact ⟨⟨code, hcause, .inl ⟨rest, hscript⟩⟩, hidle, rfl⟩
  case run hturn =>
    obtain ⟨hidle, hvalid, hcause, rfl⟩ := hturn.rejects_of_new_rejected hrejected hnew
    exact ⟨⟨s.cmd, hcause, .inr ⟨hvalid, rfl⟩⟩, hidle, rfl⟩
  case answered r _ hr hturn =>
    obtain ⟨(hidle : s.seq = .idle), -⟩ := hturn.rejects_of_new_rejected hrejected hnew
    simp [hidle, Phase.request?] at hr

/-! The snapshot (R106, R107, R115). -/

/-- A turn writes the snapshot only at UPD, which puts the staged pair there whole. -/
theorem TurnTo.snapshot_kept_or_updated {s t : State} (h : TurnTo s t) :
    t.snapshot = s.snapshot ∨ (s.seq = .upd ∧ t.snapshot = (true, s.tn, s.pn)) := by
  cases h
  case upd hseq => exact .inr ⟨hseq, rfl⟩
  all_goals exact .inl (by simp [State.snapshot])

/-- Settles O43: of a step's three kinds only a reset and a turn write the snapshot, and a turn only at UPD. -/
theorem snapshotChangesOnlyByUpdOrReset : Obligations.SnapshotChangesOnlyByUpdOrReset := by
  unfold Obligations.SnapshotChangesOnlyByUpdOrReset
  intro s t hstep
  cases step_registers hstep
  case reset rest hscript => exact .inr (.inl ⟨rest, hscript⟩)
  case environment => exact .inl rfl
  case turn hturn => exact hturn.snapshot_kept_or_updated.imp_right .inr

end Sys2Proof.Machine
end

section
/-! Reset and hazards (spec/70_reset_and_hazards.md): the reset step (R125), answers that belong to no transaction (R126), and a
transaction that is never answered (R129). -/

namespace Sys2Proof.Machine

/-! The reset step (R125). -/

theorem step_of_rst {s : State} {rest : List Event} (h : s.script = .rst :: rest) :
    step s = .next (State.resetStep { s with script := rest }) := by
  rw [step, h]; rfl

/-- Settles O2: each register is read off `State.resetStep`, which looks at no register of the state it starts from and keeps
the record of requests. -/
theorem resetStepOverridesEveryState : Obligations.ResetStepOverridesEveryState := by
  unfold Obligations.ResetStepOverridesEveryState
  intro s rest hscript
  exact ⟨_, step_of_rst hscript, rfl, rfl, rfl, rfl, rfl, rfl, rfl, rfl, rfl, rfl, rfl, rfl, rfl, rfl⟩

/-! Answers to no transaction (R126). -/

theorem step_of_lateAnswer {s : State} {a : BusAnswer} {rest : List Event} (h : s.script = .lateAnswer a :: rest) :
    step s = .next { s with script := rest } := by
  rw [step, h]; rfl

theorem step_of_answer_at_innerPhase {s : State} {a : BusAnswer} {rest : List Event} (h : s.script = .answer a :: rest)
    (hnoBus : s.seq.request? = none) : step s = .next { s with script := rest } := by
  simp [step, h, perform, hnoBus]

/-- Settles O3: a late answer is dropped in any state, an answer in time only where the phase has no transaction. -/
theorem answersToNoTransactionWriteNothing : Obligations.AnswersToNoTransactionWriteNothing := by
  unfold Obligations.AnswersToNoTransactionWriteNothing
  rintro s a rest (hlate | ⟨hanswer, hnoBus⟩)
  · exact step_of_lateAnswer hlate
  · exact step_of_answer_at_innerPhase hanswer hnoBus

/-! A transaction without an answer (R10, R119, R129). -/

/-- `s` stands where `s₀` stood, at a bus phase whose request `r` has no answer: what R129 says stays has stayed, and either
nothing was emitted since and the bus is free, or `r` stands on the bus, emitted since at most once. -/
structure State.Unanswered (s : State) (r : BusRequest) (s₀ : State) : Prop where
  request : s.seq.request? = some r
  no_answer : s.busAns = none
  seq : s.seq = s₀.seq
  err : s.err = s₀.err
  devState : s.devState = s₀.devState
  cal : s.cal = s₀.cal
  calValid : s.calValid = s₀.calValid
  snapshot : s.snapshot = s₀.snapshot
  bus : (s.busReq = none ∧ s.requests = s₀.requests) ∨
    (s.busReq = some r ∧ (s.requests = s₀.requests ∨ s.requests = r :: s₀.requests))

theorem State.unanswered_self {s : State} {r : BusRequest} (hr : s.seq.request? = some r) (hans : s.busAns = none)
    (hbus : s.busReq = none ∨ s.busReq = some r) : s.Unanswered r s :=
  ⟨hr, hans, rfl, rfl, rfl, rfl, rfl, rfl, hbus.imp (⟨·, rfl⟩) (⟨·, .inl rfl⟩)⟩

/-- A move of the environment other than a reset and an answer writes none of what the transaction holds. -/
theorem State.Unanswered.environment {s s₀ : State} {r : BusRequest} (h : s.Unanswered r s₀) (waitcnt : Half)
    (cmdValid : Bool) (cmd : Byte) (view : Option HostViews) (script : List Event) (draws : Nat) :
    State.Unanswered { s with waitcnt, cmdValid, cmd, view, script, draws } r s₀ :=
  { h with }

/-- The sequencer puts `r` on a free bus, and nothing on a bus where it stands already (R38). -/
theorem State.Unanswered.emit {s s₀ : State} {r : BusRequest} (h : s.Unanswered r s₀) : (s.emit r).Unanswered r s₀ := by
  have hown : s.busReq = none ∨ s.busReq = some r := h.bus.imp And.left And.left
  rw [State.emit_eq_of_free_or_own hown]
  refine { h with bus := .inr ⟨rfl, ?_⟩ }
  obtain ⟨hfree, hrequests⟩ | ⟨hreq, hrequests⟩ := h.bus
  · exact .inr (by simp [State.requestsWith, hfree, hrequests])
  · simpa [State.requestsWith, hreq] using hrequests

/-- The sequencer's turn only emits (R10). -/
theorem State.Unanswered.turn_eq_emit {s s₀ : State} {r : BusRequest} (h : s.Unanswered r s₀) :
    turn s = .next (s.emit r) := by
  obtain ⟨onOk, hturn⟩ := turn_busPhase h.request
  rw [hturn, transact_of_free h.no_answer]

/-- Any step but a reset or an answer leaves the transaction unanswered at its phase (R119, R129). -/
theorem State.Unanswered.exists_step {s s₀ : State} {r : BusRequest} (h : s.Unanswered r s₀)
    (hevent : ∀ e ∈ s.script.take 1, e ≠ .rst ∧ ∀ a, e ≠ .answer a) :
    ∃ t, step s = .next t ∧ t.Unanswered r s₀ ∧ t.script = s.script.tail := by
  rcases hs : s.script with - | ⟨e, rest⟩
  · exact ⟨_, (step_of_script_nil hs).trans h.turn_eq_emit, h.emit, by simp [hs]⟩
  have hmoved : State.Unanswered { s with script := rest } r s₀ := h.environment ..
  obtain ⟨hnoReset, hnoAnswer⟩ := hevent e (by simp [hs])
  cases e
  case rst => exact absurd rfl hnoReset
  case answer a => exact absurd rfl (hnoAnswer a)
  case tick =>
    refine ⟨_, step_of_tick hs, ?_, State.ticked_script _⟩
    rw [State.ticked_eq]
    exact h.environment ..
  case read => exact ⟨_, step_of_read hs, h.environment .., rfl⟩
  case offer => exact ⟨_, step_of_offer_at_busy hs (Phase.ne_idle_of_request h.request), h.environment .., rfl⟩
  case withdraw => exact ⟨State.withdrawn { s with script := rest }, by rw [step, hs]; rfl, h.environment .., rfl⟩
  case lateAnswer => exact ⟨_, step_of_lateAnswer hs, hmoved, rfl⟩
  case run => exact ⟨_, (step_of_run hs).trans hmoved.turn_eq_emit, hmoved.emit, State.emit_script _ _⟩

theorem State.Unanswered.exists_run {n : Nat} {s s₀ : State} {r : BusRequest} (h : s.Unanswered r s₀)
    (hevents : ∀ e ∈ s.script.take n, e ≠ .rst ∧ ∀ a, e ≠ .answer a) :
    ∃ t, Sys2Proof.core.run n s = .next t ∧ t.Unanswered r s₀ := by
  induction n generalizing s with
  | zero => exact ⟨s, run_zero s, h⟩
  | succ n ih =>
    obtain ⟨t, hstep, ht, hscript⟩ := h.exists_step fun e he => hevents e (List.take_subset_take_left _ (by omega) he)
    have hrest : ∀ e ∈ t.script.take n, e ≠ .rst ∧ ∀ a, e ≠ .answer a := fun e he =>
      hevents e (List.mem_of_mem_tail (by rw [List.tail_take_eq_take_tail, ← hscript]; exact he))
    obtain ⟨u, hrun, hu⟩ := ih ht hrest
    exact ⟨u, (run_succ hstep).trans hrun, hu⟩

/-- Settles O51: the state the run starts from is unanswered since itself, and every step keeps that. -/
theorem unansweredTransactionHoldsThePhase : Obligations.UnansweredTransactionHoldsThePhase := by
  unfold Obligations.UnansweredTransactionHoldsThePhase
  intro n s r hr hans hbus hevents
  obtain ⟨t, hrun, ht⟩ := (State.unanswered_self hr hans hbus).exists_run hevents
  have hrequests : t.requests = s.requests ∨ t.requests = r :: s.requests :=
    ht.bus.elim (fun hfree => .inl hfree.2) And.right
  exact ⟨t, hrun, ht.seq, ht.err, ht.devState, ht.cal, ht.calValid, ht.snapshot, hrequests⟩

end Sys2Proof.Machine
end
